-- ==== Sys2Proof/Config.lean ====
section
/-!
DEFINITION. The fixed parameters of 00_scope.md R6. None is left open, and the spec leaves no value free, so there
is no uninterpreted constant here.
-/
namespace Sys2Proof.Config

/-- Bytes moved by UNM16 and MAR16 (R6 `HALF_BYTES`). -/
abbrev halfBytes : Nat := 2
/-- Bytes moved by UNM32 and MAR32 (R6 `WORD_BYTES`). -/
abbrev wordBytes : Nat := 4
/-- Byte lanes on each stream port (R6 `PORT_BYTES`). -/
abbrev portBytes : Nat := 4
/-- Size of the file header in bytes (R6 `FILE_HDR_BYTES`). -/
abbrev fileHdrBytes : Nat := 14
/-- The only supported info header size in bytes (R6 `INFO_HDR_BYTES`). -/
abbrev infoHdrBytes : Nat := 40
/-- Size of the whole header in bytes (R6 `HDR_BYTES`). -/
abbrev hdrBytes : Nat := fileHdrBytes + infoHdrBytes
/-- Entries of the palette (R6 `PAL_ENTRIES`). -/
abbrev palEntries : Nat := 256
/-- Bytes of one palette entry (R6 `PAL_ENTRY_BYTES`). -/
abbrev palEntryBytes : Nat := 4
/-- Bytes of the palette (R6 `PAL_BYTES`). -/
abbrev palBytes : Nat := palEntries * palEntryBytes
/-- Every stored row is a multiple of this many bytes (R6 `ROW_ALIGN`). -/
abbrev rowAlign : Nat := 4
/-- The bit depths the block supports (R6 `SUPPORTED_BPP`). -/
abbrev supportedBpp : List Nat := [8, 24, 32]
/-- The greatest value a 32-bit register or bus holds (R6 `MAX_U32`). -/
abbrev maxU32 : Nat := 0xFFFFFFFF
/-- The implemented register slots are those below this index (R14; RDREG of the others is ILLEGAL, R62). -/
abbrev regCount : Nat := 12

end Sys2Proof.Config
end

