-- ==== Sys2Proof/Word.lean ====
section
/-!
DEFINITION. The machine's word types (00_scope.md R6, R7; 10_state.md R14, R19).
-/
namespace Sys2Proof

/-- A 32-bit value: a register slot, an operand bus, the result bus (R6 `RESULT_W`, R14, R19). -/
abbrev Word := BitVec 32

/-- A 16-bit value: the operand bus `opC` and the value MAR16 marshals (R19, R59). -/
abbrev Half := BitVec 16

/-- One byte lane of a stream port (R20, R22). -/
abbrev Byte := BitVec 8

end Sys2Proof
end

