-- ==== Sys2Proof/Syntax.lean ====
section
/-!
DEFINITION. The commands of the block: the record the host presents (10_state.md R19, 30_encoding.md R57), the
thirteen instructions of the opcode table with the operands each reads (30_encoding.md R58, R59), and the names of
the three kinds of ILLEGAL command word (R62).
-/
namespace Sys2Proof

/-- A command as it stands on the command port (R19): the command word and the three operand buses. -/
structure Command where
  cmd : BitVec 8
  opA : Word
  opB : Word
  opC : Half
  deriving DecidableEq, Repr

/-- The instructions, one constructor per row of the opcode table, each with exactly the operands R59 says it
reads. A bus a command ignores is no argument of it (R19, R59). -/
inductive Instr where
  /-- NOP (R76). -/
  | nop
  /-- UNM16: unmarshal a 16-bit little-endian word from IN (R67). -/
  | unm16
  /-- UNM32: unmarshal a 32-bit little-endian word from IN (R68). -/
  | unm32
  /-- MAR16: marshal the 16-bit `v` to OUT (R69); `opA[31:16]` is ignored (R59). -/
  | mar16 (v : Half)
  /-- MAR32: marshal the 32-bit `v` to OUT (R70). -/
  | mar32 (v : Word)
  /-- GEOM: load the geometry of width `w`, height `h`, `bpp` bits per pixel (R78). -/
  | geom (w h : Word) (bpp : Half)
  /-- GCLR: discard the loaded geometry (R79). -/
  | gclr
  /-- RDREG: read the register of index `sel` (R80). -/
  | rdreg (sel : BitVec 4)
  /-- ROWREV: map row index `y` (R83). -/
  | rowrev (y : Word)
  /-- ROWADDR: payload offset of logical row `y` (R84). -/
  | rowaddr (y : Word)
  /-- PIXADDR: payload offset of pixel `(x, y)` (R85). -/
  | pixaddr (x y : Word)
  /-- SKIPPAD: consume one row's padding (R71). -/
  | skippad
  /-- EMITPAD: emit one row's padding (R72). -/
  | emitpad
  deriving DecidableEq, Repr

/-- Why a command word is ILLEGAL, one constructor per clause of R62. -/
inductive DecodeError where
  /-- `op` is 0xD, 0xE or 0xF. -/
  | reservedOp (op : BitVec 4)
  /-- `op` is in 0x0 to 0xC other than 0x7, and `sel` is not 0. -/
  | selectorNotZero (op sel : BitVec 4)
  /-- RDREG of a reserved slot, `sel` 12 to 15. -/
  | reservedRegister (sel : BitVec 4)
  deriving DecidableEq, Repr

end Sys2Proof
end

