-- ==== Sys2Proof/WellFormed.lean ====
section
/-!
DEFINITION. Which instructions some legal command word stands for (30_encoding.md R61, R62).
-/
namespace Sys2Proof

/-- Every instruction is well formed but RDREG of a reserved slot (R62: `op = 0x7` and `sel >= 12` is ILLEGAL). -/
def Instr.wellFormed : Instr → Bool
  | .nop => true
  | .unm16 => true
  | .unm32 => true
  | .mar16 _ => true
  | .mar32 _ => true
  | .geom _ _ _ => true
  | .gclr => true
  | .rdreg sel => decide (sel.toNat < Config.regCount)
  | .rowrev _ => true
  | .rowaddr _ => true
  | .pixaddr _ _ => true
  | .skippad => true
  | .emitpad => true

end Sys2Proof
end

