-- ==== Sys2Proof/Decode.lean ====
section
/-!
DEFINITION. The decoder and the encoder (30_encoding.md R57 to R64). The decoder is total on all 2^88 commands and
rejects an ILLEGAL command word by the name of the clause of R62 it falls under; it reads `cmd` to know which
command it has, and only then the buses that command uses (R59, R64).
-/
namespace Sys2Proof

/-- `op`, the operation code, `cmd[3:0]` (R57). -/
def opOf (cmd : BitVec 8) : BitVec 4 := cmd.extractLsb' 0 4

/-- `sel`, the selector, `cmd[7:4]` (R57). -/
def selOf (cmd : BitVec 8) : BitVec 4 := cmd.extractLsb' 4 4

/-- The command `i` of operation code `op`, for which the selector must be 0 (R61, R62 second clause). -/
def decodePlain (op sel : BitVec 4) (i : Instr) : Except DecodeError Instr :=
  if sel = 0#4 then .ok i else .error (.selectorNotZero op sel)

/-- RDREG, whose selector is a register index (R61, R62 third clause). -/
def decodeRdreg (sel : BitVec 4) : Except DecodeError Instr :=
  if sel.toNat < Config.regCount then .ok (.rdreg sel) else .error (.reservedRegister sel)

/-- The opcode map of R58 with the operand use of R59. -/
def decodeFields (op sel : BitVec 4) (opA opB : Word) (opC : Half) : Except DecodeError Instr :=
  match op with
  | 0x0#4 => decodePlain op sel .nop
  | 0x1#4 => decodePlain op sel .unm16
  | 0x2#4 => decodePlain op sel .unm32
  | 0x3#4 => decodePlain op sel (.mar16 (opA.extractLsb' 0 16))
  | 0x4#4 => decodePlain op sel (.mar32 opA)
  | 0x5#4 => decodePlain op sel (.geom opA opB opC)
  | 0x6#4 => decodePlain op sel .gclr
  | 0x7#4 => decodeRdreg sel
  | 0x8#4 => decodePlain op sel (.rowrev opA)
  | 0x9#4 => decodePlain op sel (.rowaddr opA)
  | 0xA#4 => decodePlain op sel (.pixaddr opA opB)
  | 0xB#4 => decodePlain op sel .skippad
  | 0xC#4 => decodePlain op sel .emitpad
  | _ => .error (.reservedOp op)

/-- The instruction a command stands for, or the clause of R62 that makes it ILLEGAL. -/
def decode (c : Command) : Except DecodeError Instr :=
  decodeFields (opOf c.cmd) (selOf c.cmd) c.opA c.opB c.opC

/-- The command word of operation code `op` and selector `sel`: `sel ++ op` (R57, R58). -/
def cmdWord (sel op : BitVec 4) : BitVec 8 := sel ++ op

/-- The command of an instruction: its word of R58 with its operands on their buses and 0 on the buses it does
not use (R65). -/
def encode : Instr → Command
  | .nop => ⟨cmdWord 0x0#4 0x0#4, 0#32, 0#32, 0#16⟩
  | .unm16 => ⟨cmdWord 0x0#4 0x1#4, 0#32, 0#32, 0#16⟩
  | .unm32 => ⟨cmdWord 0x0#4 0x2#4, 0#32, 0#32, 0#16⟩
  | .mar16 v => ⟨cmdWord 0x0#4 0x3#4, v.setWidth 32, 0#32, 0#16⟩
  | .mar32 v => ⟨cmdWord 0x0#4 0x4#4, v, 0#32, 0#16⟩
  | .geom w h bpp => ⟨cmdWord 0x0#4 0x5#4, w, h, bpp⟩
  | .gclr => ⟨cmdWord 0x0#4 0x6#4, 0#32, 0#32, 0#16⟩
  | .rdreg sel => ⟨cmdWord sel 0x7#4, 0#32, 0#32, 0#16⟩
  | .rowrev y => ⟨cmdWord 0x0#4 0x8#4, y, 0#32, 0#16⟩
  | .rowaddr y => ⟨cmdWord 0x0#4 0x9#4, y, 0#32, 0#16⟩
  | .pixaddr x y => ⟨cmdWord 0x0#4 0xA#4, x, y, 0#16⟩
  | .skippad => ⟨cmdWord 0x0#4 0xB#4, 0#32, 0#32, 0#16⟩
  | .emitpad => ⟨cmdWord 0x0#4 0xC#4, 0#32, 0#32, 0#16⟩

/-- The predicate `ILLEGAL(cmd)`, written as R62's last line writes it. -/
def illegalCmd (cmd : BitVec 8) : Bool :=
  decide (0xD ≤ (opOf cmd).toNat) || (decide (opOf cmd ≠ 0x7#4) && decide (selOf cmd ≠ 0#4))
    || (decide (opOf cmd = 0x7#4) && decide (12 ≤ (selOf cmd).toNat))

/-- The command whose bits, numbered as the opcode table numbers them, are the low `nbits` bits of `w`: `cmd` is
bits 7:0, and the operand buses count on from it in bus order, opA 39:8, opB 71:40, opC 87:72 (DESIGN CHOICE, log
entry 2: the spec numbers only the bits of `cmd`). -/
def commandOfTableWord (nbits w : Nat) : Command :=
  { cmd := BitVec.ofNat 8 (w % 2 ^ nbits)
    opA := BitVec.ofNat 32 (w % 2 ^ nbits / 2 ^ 8)
    opB := BitVec.ofNat 32 (w % 2 ^ nbits / 2 ^ 40)
    opC := BitVec.ofNat 16 (w % 2 ^ nbits / 2 ^ 72) }

/-- What the decoder reads from an opcode table word; `none` where it refuses. -/
def decodeTableWord (nbits w : Nat) : Option Instr :=
  match decode (commandOfTableWord nbits w) with
  | .ok i => some i
  | .error _ => none

end Sys2Proof
end

