-- ==== Sys2Proof/Machine/State.lean ====
section
/-!
DEFINITION. The state of the machine as plain data (10_state.md R13 to R23), the response statuses (60_exceptions.md
R90), the reasons a step can stop, and the state after reset (70_reset_and_hazards.md R105, R106).
-/
namespace Sys2Proof.Machine

/-- The statuses of R90. Codes 6 and 7 are never produced and have no constructor (log entry 9). -/
inductive Status where
  /-- Code 0: the command completed. -/
  | ok
  /-- Code 1: a read or write that is not possible (R93). -/
  | short
  /-- Code 2: bad dimension, bad coordinate, or no geometry loaded (R94, R97). -/
  | invalidArg
  /-- Code 3: bits per pixel not 8, 24 or 32 (R96). -/
  | unsupported
  /-- Code 4: file size above `MAX_U32` (R98). -/
  | overflow
  /-- Code 5: a reserved command word (R95). -/
  | illegal
  deriving DecidableEq, Repr

/-- The geometry register file, the architectural state of the block (R13, R14), one field per implemented slot.
A slot is 32 bits wide; a field holds the bits R14 lists as used, and the operation that reads a slot supplies the
zeros above them (log entry 6). -/
structure Regs where
  /-- Slot 0, GSTAT: bit 0 is VALID. -/
  gstat : BitVec 1
  /-- Slot 1, WIDTH: the width's 32-bit pattern. -/
  width : Word
  /-- Slot 2, HEIGHT: the height's 32-bit pattern. -/
  height : Word
  /-- Slot 3, BPP: bits per pixel, bits 15:0. -/
  bpp : BitVec 16
  /-- Slot 4, BYPP: bytes per pixel, bits 2:0. -/
  bypp : BitVec 3
  /-- Slot 5, ROWBYTES: meaningful bytes of a row. -/
  rowbytes : Word
  /-- Slot 6, STRIDE: stored bytes of a row. -/
  stride : Word
  /-- Slot 7, PAD: padding bytes of a row, bits 1:0. -/
  pad : BitVec 2
  /-- Slot 8, PALSIZE: palette bytes, bits 10:0. -/
  palsize : BitVec 11
  /-- Slot 9, DATAOFS: file offset of the payload. -/
  dataofs : Word
  /-- Slot 10, IMGSIZE: payload bytes. -/
  imgsize : Word
  /-- Slot 11, FILESIZE: file bytes. -/
  filesize : Word
  deriving DecidableEq, Repr

/-- The eleven values GeomCalc returns, as the exact integers R77 computes. -/
structure GeomValues where
  width : Nat
  height : Nat
  bpp : Nat
  bypp : Nat
  rowbytes : Nat
  stride : Nat
  pad : Nat
  palsize : Nat
  dataofs : Nat
  imgsize : Nat
  filesize : Nat
  deriving DecidableEq, Repr

/-- The input stream port (R20). -/
structure InPort where
  /-- The stream is usable. -/
  inOk : Bool
  /-- Bytes the stream can deliver now, saturated: 4 to 7 mean four or more. -/
  inAvail : BitVec 3
  /-- Byte lane `k`, bits `8k+7:8k`, is the byte at position `k` of the stream. -/
  inData : Word
  deriving DecidableEq, Repr

/-- The output stream port (R21). -/
structure OutPort where
  /-- The sink is usable. -/
  outOk : Bool
  /-- Bytes the sink can accept now, saturated as `inAvail` is. -/
  outSpace : BitVec 3
  deriving DecidableEq, Repr

/-- The response port (R22). -/
structure Response where
  status : Status
  result : Word
  /-- Bytes the host must advance the input stream by. -/
  inConsumed : BitVec 3
  /-- Bytes for the output stream, lane 0 first. -/
  outData : Word
  /-- How many lanes of `outData` the host must append. -/
  outCount : BitVec 3
  deriving DecidableEq, Repr

/-- One command with a snapshot of both stream ports (10_state.md section 2, R23). -/
structure Transaction where
  command : Command
  inPort : InPort
  outPort : OutPort
  deriving DecidableEq, Repr

/-- What the host does to the block (log entry 1). -/
inductive HostInput where
  /-- It presents a command with the two port snapshots (R19 to R23). -/
  | command (t : Transaction)
  /-- It asserts reset while no command is presented (R105 to R107). -/
  | reset
  /-- It asserts reset while `t` is presented, which it must not do (R107). -/
  | resetDuring (t : Transaction)
  /-- It presents `u` before `t` is answered, which it must not do (R110). -/
  | overlap (t u : Transaction)
  deriving DecidableEq, Repr

/-- The machine's state: the spec's registers, the ports of R20 to R22 as they now stand, and the model's own two
fields, what the host presents next and the responses given so far (log entries 1, 3 and 7). -/
structure State where
  /-- The geometry register file (R13, R14). -/
  regs : Regs
  /-- The input port lines presented with the current command (R20). -/
  inPort : InPort
  /-- The output port lines presented with the current command (R21). -/
  outPort : OutPort
  /-- The response port as last driven (R22, R106). -/
  response : Response
  /-- What the host presents from here on, first input first (R55, R110). -/
  inputs : List HostInput
  /-- The responses given so far, newest first (R115). -/
  history : List Response
  deriving DecidableEq, Repr

/-- Why the machine stops. -/
inductive Fault where
  /-- Raised by `step` alone, when the host presents nothing: the block has no step of its own (R101, R114) and the
  run is over (R115). Safe: the model stops, and nothing is claimed about what does not happen. -/
  | noCommand
  deriving DecidableEq, Repr

/-- What the machine has no meaning for. -/
inductive Refusal where
  /-- Raised by an arm of `exec` for an instruction without a meaning. No arm raises it. Safe. -/
  | notModelled (mnemonic : String)
  /-- Raised by `step` for `HostInput.resetDuring`: "A command in flight at reset is not defined" (R107). Safe. -/
  | resetDuringCommand
  /-- Raised by `step` for `HostInput.overlap`: "the model has no step for it" (R110). Safe. -/
  | overlappingCommands
  deriving DecidableEq, Repr

/-- The registers after reset: `for i in 0..11: x[i] <- 0` (R105). -/
def Regs.reset : Regs :=
  { gstat := 0, width := 0, height := 0, bpp := 0, bypp := 0, rowbytes := 0, stride := 0, pad := 0,
    palsize := 0, dataofs := 0, imgsize := 0, filesize := 0 }

/-- What the response port holds until the first command after reset (R106). -/
def Response.idle : Response :=
  { status := .ok, result := 0, inConsumed := 0, outData := 0, outCount := 0 }

/-- The machine right after reset (R105, R106), with nothing presented (log entry 1) and the port lines the host
drives at 0 (DESIGN CHOICE, log entry 3). -/
def State.reset : State :=
  { regs := Regs.reset
    inPort := { inOk := false, inAvail := 0, inData := 0 }
    outPort := { outOk := false, outSpace := 0 }
    response := Response.idle
    inputs := []
    history := [] }

end Sys2Proof.Machine
end

