-- ==== Sys2Proof/Machine/Operands.lean ====
section
/-!
DEFINITION. The operand forms of the block: how a bus, a register or a port line becomes a number or a byte
(00_scope.md R7 to R10; 10_state.md R20, R21; 20_memory.md R38, R39; 30_encoding.md R59, R60).
-/
namespace Sys2Proof.Machine

/-- `sint32(v)`, two's complement (R8): how GEOM reads its width and height, and the rows read WIDTH and HEIGHT. -/
def sint32 (v : Word) : Int := v.toInt

/-- The unsigned value of a bus: how a coordinate is read (R59, R82). -/
def unsigned (v : Word) : Nat := v.toNat

/-- `zext_32` of a narrower pattern (R8). -/
def zext32 (n : Nat) (v : BitVec n) : Word := v.setWidth 32

/-- A natural number as a 32-bit pattern. Every rule writes only values that fit (R8, R77, R87; log entry 11). -/
def word32 (v : Nat) : Word := BitVec.ofNat 32 v

/-- Byte lane `k` of a port, `v[8k+7:8k]` (R20). -/
def lane (v : Word) (k : Nat) : Byte := v.extractLsb' (8 * k) 8

/-- The first `n` byte lanes of `v`, with the lanes above them 0: `v[8n-1:0]` on a 32-bit bus (R10). -/
def lowBytes (n : Nat) (v : Word) : Word := (v.extractLsb' 0 (8 * n)).setWidth 32

/-- A saturated count of a port: 4 to 7 mean four or more (R20, R21, R39). -/
def saturated (c : BitVec 3) : Nat := min c.toNat Config.portBytes

/-- `avail` (R9, R39). -/
def InPort.avail (p : InPort) : Nat := saturated p.inAvail

/-- `space` (R9, R39). -/
def OutPort.space (p : OutPort) : Nat := saturated p.outSpace

/-- A read of `n` bytes is possible iff `in_ok = 1` and `avail >= n` (R39). -/
def InPort.canRead (p : InPort) (n : Nat) : Bool := p.inOk && decide (n ≤ p.avail)

/-- A write of `n` bytes is possible iff `out_ok = 1` and `space >= n` (R39). -/
def OutPort.canWrite (p : OutPort) (n : Nat) : Bool := p.outOk && decide (n ≤ p.space)

/-- A byte count on a 3-bit response field (R22). -/
def count3 (n : Nat) : BitVec 3 := BitVec.ofNat 3 n

/-- The numeric code of a status on `status[2:0]` (R90). -/
def Status.code : Status → BitVec 3
  | .ok => 0#3
  | .short => 1#3
  | .invalidArg => 2#3
  | .unsupported => 3#3
  | .overflow => 4#3
  | .illegal => 5#3

/-- The bytes a response gives the output stream: the first `out_count` lanes of `out_data`, lane 0 first (R22,
R111). -/
def Response.outBytes (r : Response) : List Byte := (List.range r.outCount.toNat).map (lane r.outData)

end Sys2Proof.Machine
end

