-- ==== Sys2Proof/Machine/Flags.lean ====
section
/-!
DEFINITION. The block's only status bit, VALID (10_state.md R26), and the bounds checks that test it with the
coordinates (42_rows.md R82). No command sets a condition code (R26).
-/
namespace Sys2Proof.Machine

/-- VALID, `x[GSTAT][0]`: a geometry is loaded (R14, R26). -/
def Regs.valid (r : Regs) : Bool := decide (r.gstat = 1#1)

/-- GSTAT after a successful GEOM (R78). -/
def gstatLoaded : BitVec 1 := 1#1

/-- `y < H` with `H = sint32(x[HEIGHT])` and `y` unsigned (R82). -/
def Regs.rowInRange (r : Regs) (y : Word) : Bool := decide ((unsigned y : Int) < sint32 r.height)

/-- `x < W` with `W = sint32(x[WIDTH])` and `x` unsigned (R82). -/
def Regs.columnInRange (r : Regs) (x : Word) : Bool := decide ((unsigned x : Int) < sint32 r.width)

/-- `RowOK(y)` (R82). -/
def Regs.rowOk (r : Regs) (y : Word) : Bool := r.valid && r.rowInRange y

/-- `PixOK(x, y)` (R82). -/
def Regs.pixOk (r : Regs) (x y : Word) : Bool := r.valid && r.columnInRange x && r.rowInRange y

end Sys2Proof.Machine
end

