-- ==== Sys2Proof/Machine/Ops.lean ====
section
/-!
DEFINITION. The named operations over registers, ports and the response: reading a slot, answering a command,
raising a status (60_exceptions.md R92, the block's whole error machinery), transferring bytes (00_scope.md R10,
20_memory.md R39, R44), presenting a command and reset (70_reset_and_hazards.md R105). There is no return from an
exception (R103): the next command is processed normally.
-/
namespace Sys2Proof.Machine

/-- `x[sel]`: the 32-bit value of an implemented slot, with the bits R14 does not list as used reading 0; slots 12
to 15 have no storage. -/
def Regs.read (r : Regs) (sel : BitVec 4) : Option Word :=
  match sel.toNat with
  | 0 => some (zext32 1 r.gstat)
  | 1 => some r.width
  | 2 => some r.height
  | 3 => some (zext32 16 r.bpp)
  | 4 => some (zext32 3 r.bypp)
  | 5 => some r.rowbytes
  | 6 => some r.stride
  | 7 => some (zext32 2 r.pad)
  | 8 => some (zext32 11 r.palsize)
  | 9 => some r.dataofs
  | 10 => some r.imgsize
  | 11 => some r.filesize
  | _ => none

/-- The response of a command that completes with `result` and moves no byte; a field no rule sets is 0 (R22). -/
def Response.completed (result : Word) : Response :=
  { status := .ok, result := result, inConsumed := 0, outData := 0, outCount := 0 }

/-- The response of a command that consumed `n` input bytes (R45). -/
def Response.consumed (n : Nat) (result : Word) : Response :=
  { status := .ok, result := result, inConsumed := count3 n, outData := 0, outCount := 0 }

/-- The response of a command that emits the low `n` bytes of `v`: `MemWrite(OUT, n, v)` (R10, R22). -/
def Response.emitted (n : Nat) (v : Word) : Response :=
  { status := .ok, result := 0, inConsumed := 0, outData := lowBytes n v, outCount := count3 n }

/-- The response of a command that raises `e`: every field but the status 0 (R92). -/
def Response.raised (e : Status) : Response :=
  { status := e, result := 0, inConsumed := 0, outData := 0, outCount := 0 }

/-- The state with `r` on the response port and at the head of the responses given. -/
def State.respond (s : State) (r : Response) : State :=
  { s with response := r, history := r :: s.history }

/-- The state with the register file replaced. -/
def State.withRegs (s : State) (r : Regs) : State := { s with regs := r }

/-- A command is answered with `r` (R22). -/
def answer (r : Response) (s : State) : Host.Outcome State Fault Refusal := .next (s.respond r)

/-- `raise e`: no register is written and no byte moves (R11, R92). It is not a trap; the next command is processed
normally (R102, R103). -/
def raise (e : Status) (s : State) : Host.Outcome State Fault Refusal := answer (Response.raised e) s

/-- A command completes with a result and moves no byte. -/
def complete (result : Word) (s : State) : Host.Outcome State Fault Refusal :=
  answer (Response.completed result) s

/-- `MemRead(IN, n)`: the first `n` bytes on the input port assembled little-endian, zero-extended (R10, R38). -/
def memRead (n : Nat) (s : State) : Word := lowBytes n s.inPort.inData

/-- Unmarshal an `n`-byte word: SHORT if the read is not possible, else its value and `n` bytes consumed (R39, R44,
R67, R68). -/
def unmarshal (n : Nat) (s : State) : Host.Outcome State Fault Refusal :=
  if s.inPort.canRead n then answer (Response.consumed n (memRead n s)) s else raise .short s

/-- Marshal the low `n` bytes of `v`: SHORT if the write is not possible, else the bytes emitted (R39, R44, R69,
R70). -/
def marshal (n : Nat) (v : Word) (s : State) : Host.Outcome State Fault Refusal :=
  if s.outPort.canWrite n then answer (Response.emitted n v) s else raise .short s

/-- Consume `n` bytes without reading their values; with `n = 0` no port is checked (R71). -/
def discard (n : Nat) (s : State) : Host.Outcome State Fault Refusal :=
  if n ≠ 0 ∧ s.inPort.canRead n = false then raise .short s else answer (Response.consumed n 0#32) s

/-- Emit `n` zero bytes; with `n = 0` no port is checked (R72). -/
def emitZeros (n : Nat) (s : State) : Host.Outcome State Fault Refusal :=
  if n ≠ 0 ∧ s.outPort.canWrite n = false then raise .short s else answer (Response.emitted n 0#32) s

/-- `t` stands on the ports and `rest` is what the host presents after it (R23, R55). -/
def State.present (s : State) (t : Transaction) (rest : List HostInput) : State :=
  { s with inPort := t.inPort, outPort := t.outPort, inputs := rest }

/-- The host asserts reset: the registers and the response port take their reset values (R105, R106); the streams
and the responses already given are the host's (R107, R115; log entry 7). -/
def State.assertReset (s : State) (rest : List HostInput) : State :=
  { s with regs := Regs.reset, response := Response.idle, inputs := rest }

/-- The bytes consumed from IN so far by the block's commands: the sum of `in_consumed` (R115). -/
def State.bytesConsumed (s : State) : Nat := (s.history.map fun r => r.inConsumed.toNat).sum

/-- The bytes appended to OUT so far by the block's commands, in order (R115). -/
def State.bytesEmitted (s : State) : List Byte := (s.history.reverse.map Response.outBytes).flatten

/-- The port lines of a usable source with four zero bytes on its lanes: what `withFetchWord` presents with a word
(DESIGN CHOICE, log entry 2; the counts are those 95_test_vectors.md presents unless it says otherwise). -/
def InPort.ready : InPort := { inOk := true, inAvail := 4, inData := 0 }

/-- The port lines of a usable sink with room for four bytes (DESIGN CHOICE, log entry 2). -/
def OutPort.ready : OutPort := { outOk := true, outSpace := 4 }

end Sys2Proof.Machine
end

