-- ==== Sys2Proof/Machine/Codec.lean ====
section
/-!
DEFINITION. The byte-order codec commands (40_codec.md R67 to R72). The ILLEGAL test of each rule's first line is
the decoder's (30_encoding.md R63).
-/
namespace Sys2Proof.Machine

/-- UNM16 (R67): two bytes, zero-extended. -/
def execUnm16 (s : State) : Host.Outcome State Fault Refusal := unmarshal Config.halfBytes s

/-- UNM32 (R68): four bytes. -/
def execUnm32 (s : State) : Host.Outcome State Fault Refusal := unmarshal Config.wordBytes s

/-- MAR16 (R69): `v`, least-significant byte first. -/
def execMar16 (v : Half) (s : State) : Host.Outcome State Fault Refusal :=
  marshal Config.halfBytes (zext32 16 v) s

/-- MAR32 (R70): `v`, least-significant byte first. -/
def execMar32 (v : Word) (s : State) : Host.Outcome State Fault Refusal := marshal Config.wordBytes v s

/-- SKIPPAD (R71): consume `x[PAD]` bytes; an absent geometry is reported before a short stream (R100). -/
def execSkippad (s : State) : Host.Outcome State Fault Refusal :=
  if s.regs.valid then discard s.regs.pad.toNat s else raise .invalidArg s

/-- EMITPAD (R72): emit `x[PAD]` zero bytes; an absent geometry is reported before a short stream (R100). -/
def execEmitpad (s : State) : Host.Outcome State Fault Refusal :=
  if s.regs.valid then emitZeros s.regs.pad.toNat s else raise .invalidArg s

end Sys2Proof.Machine
end

