-- ==== Sys2Proof/Machine/Geometry.lean ====
section
/-!
DEFINITION. The geometry and control commands NOP, GEOM, GCLR and RDREG (41_geometry.md R76 to R80).
-/
namespace Sys2Proof.Machine

/-- `RowStride = ceil(rowbytes / 4) * 4` (R16, R77). -/
def strideOf (rowbytes : Nat) : Nat := (rowbytes + (Config.rowAlign - 1)) / Config.rowAlign * Config.rowAlign

/-- The palette's bytes, present iff the depth is 8 (R17, R77). -/
def palsizeOf (d : Nat) : Nat := if d = 8 then Config.palBytes else 0

/-- The eleven values of R77 for a positive width and height and a supported depth, as exact integers (R8). -/
def geomValues (w h d : Nat) : GeomValues :=
  let bypp := d / 8
  let rowbytes := w * bypp
  let stride := strideOf rowbytes
  let dataofs := Config.hdrBytes + palsizeOf d
  { width := w, height := h, bpp := d, bypp := bypp, rowbytes := rowbytes, stride := stride,
    pad := stride - rowbytes, palsize := palsizeOf d, dataofs := dataofs, imgsize := stride * h,
    filesize := dataofs + stride * h }

/-- `GeomCalc(w, h, d)` (R77), with its checks in the order INVALID_ARG, UNSUPPORTED, OVERFLOW (R100). -/
def geomCalc (w h : Int) (d : Nat) : Except Status GeomValues :=
  if w ≤ 0 ∨ h ≤ 0 then .error .invalidArg
  else if d ∉ Config.supportedBpp then .error .unsupported
  else if Config.maxU32 < (geomValues w.toNat h.toNat d).filesize then .error .overflow
  else .ok (geomValues w.toNat h.toNat d)

/-- The twelve register writes of a successful GEOM (R78): WIDTH, HEIGHT and BPP are the operands' own patterns,
GSTAT is 1 and the rest are GeomCalc's values. -/
def loadedRegs (w h : Word) (bpp : Half) (g : GeomValues) : Regs :=
  { gstat := gstatLoaded
    width := w
    height := h
    bpp := bpp
    bypp := BitVec.ofNat 3 g.bypp
    rowbytes := word32 g.rowbytes
    stride := word32 g.stride
    pad := BitVec.ofNat 2 g.pad
    palsize := BitVec.ofNat 11 g.palsize
    dataofs := word32 g.dataofs
    imgsize := word32 g.imgsize
    filesize := word32 g.filesize }

/-- NOP (R76). -/
def execNop (s : State) : Host.Outcome State Fault Refusal := complete 0#32 s

/-- GEOM (R78): all twelve writes together and the stride as the result, or none and GeomCalc's status. -/
def execGeom (w h : Word) (bpp : Half) (s : State) : Host.Outcome State Fault Refusal :=
  match geomCalc (sint32 w) (sint32 h) bpp.toNat with
  | .error e => raise e s
  | .ok g => complete (word32 g.stride) (s.withRegs (loadedRegs w h bpp g))

/-- GCLR (R79): `for i in 0..11: x[i] <- 0`. -/
def execGclr (s : State) : Host.Outcome State Fault Refusal := complete 0#32 (s.withRegs Regs.reset)

/-- RDREG (R80): a reserved slot is ILLEGAL, GSTAT is always readable, and the other registers need VALID. -/
def execRdreg (sel : BitVec 4) (s : State) : Host.Outcome State Fault Refusal :=
  match s.regs.read sel with
  | none => raise .illegal s
  | some v => if sel ≠ 0#4 ∧ s.regs.valid = false then raise .invalidArg s else complete v s

end Sys2Proof.Machine
end

