-- ==== Sys2Proof/Machine/Rows.lean ====
section
/-!
DEFINITION. The row reversal and address commands ROWREV, ROWADDR and PIXADDR (42_rows.md R82 to R85).
-/
namespace Sys2Proof.Machine

/-- `sint32(x[HEIGHT]) - 1 - y`, the bottom-up index of row `y` (R83). It is read only where `y < Height` (R82), so
the integer is not negative. -/
def Regs.reversedRow (r : Regs) (y : Word) : Nat := (sint32 r.height - 1 - (unsigned y : Int)).toNat

/-- The payload offset of logical row `y` (R84). -/
def Regs.rowOffset (r : Regs) (y : Word) : Nat := r.reversedRow y * r.stride.toNat

/-- The payload offset of pixel `(x, y)` (R85). -/
def Regs.pixelOffset (r : Regs) (x y : Word) : Nat := r.rowOffset y + unsigned x * r.bypp.toNat

/-- ROWREV (R83). -/
def execRowrev (y : Word) (s : State) : Host.Outcome State Fault Refusal :=
  if s.regs.rowOk y then complete (word32 (s.regs.reversedRow y)) s else raise .invalidArg s

/-- ROWADDR (R84). -/
def execRowaddr (y : Word) (s : State) : Host.Outcome State Fault Refusal :=
  if s.regs.rowOk y then complete (word32 (s.regs.rowOffset y)) s else raise .invalidArg s

/-- PIXADDR (R85). -/
def execPixaddr (x y : Word) (s : State) : Host.Outcome State Fault Refusal :=
  if s.regs.pixOk x y then complete (word32 (s.regs.pixelOffset x y)) s else raise .invalidArg s

end Sys2Proof.Machine
end

