-- ==== Sys2Proof/Machine/Dispatch.lean ====
section
/-!
DEFINITION. The dispatch of the thirteen instructions (30_encoding.md R58) to their meanings.
-/
namespace Sys2Proof.Machine

/-- The effect of one instruction on the state whose port lines were presented with it. -/
def exec (i : Instr) (s : State) : Host.Outcome State Fault Refusal :=
  match i with
  | .nop => Sys2Proof.Machine.execNop s
  | .unm16 => Sys2Proof.Machine.execUnm16 s
  | .unm32 => Sys2Proof.Machine.execUnm32 s
  | .mar16 v => Sys2Proof.Machine.execMar16 v s
  | .mar32 v => Sys2Proof.Machine.execMar32 v s
  | .geom w h bpp => Sys2Proof.Machine.execGeom w h bpp s
  | .gclr => Sys2Proof.Machine.execGclr s
  | .rdreg sel => Sys2Proof.Machine.execRdreg sel s
  | .rowrev y => Sys2Proof.Machine.execRowrev y s
  | .rowaddr y => Sys2Proof.Machine.execRowaddr y s
  | .pixaddr x y => Sys2Proof.Machine.execPixaddr x y s
  | .skippad => Sys2Proof.Machine.execSkippad s
  | .emitpad => Sys2Proof.Machine.execEmitpad s

end Sys2Proof.Machine
end

