-- ==== Sys2Proof/Machine/Step.lean ====
section
/-!
DEFINITION. One step of the machine: the host's next input is taken (20_memory.md R55). A command is decoded before
anything else is checked (30_encoding.md R63) and an ILLEGAL one raises ILLEGAL (60_exceptions.md R95).
-/
namespace Sys2Proof.Machine

/-- One transaction of the block, or one assertion of reset. -/
def step (s : State) : Host.Outcome State Fault Refusal :=
  match s.inputs with
  | [] => .fault .noCommand
  | .command t :: rest =>
    match decode t.command with
    | .ok i => exec i (s.present t rest)
    | .error _ => raise .illegal (s.present t rest)
  | .reset :: rest => .next (s.assertReset rest)
  | .resetDuring _ :: _ => .refused .resetDuringCommand
  | .overlap _ _ :: _ => .refused .overlappingCommands

/-- The host presents the command of an opcode table word next, before whatever else it presents, with a usable
source and a usable sink on the ports (log entries 1 and 2). -/
def State.withFetchWord (s : State) (nbits w : Nat) : State :=
  { s with
    inputs := .command ⟨commandOfTableWord nbits w, InPort.ready, OutPort.ready⟩ :: s.inputs }

end Sys2Proof.Machine
end

