-- ==== Sys2Proof/Machine/Layout.lean ====
section
/-!
DEFINITION. The two offset spaces the block's address results index (20_memory.md R36), the file's header (R46 to
R48), the palette (R50) and the payload (R51, R53), with the inverse map of a payload offset (42_rows.md R89). The
block accesses none of it (R36): these are the numbers a host reads its results by.
-/
namespace Sys2Proof.Machine

/-- The sixteen header fields of R46, in file order. -/
inductive FieldName where
  | magic | fileSize | reserved1 | reserved2 | dataOffset | headerSize | width | height
  | planes | bitsPerPixel | compressionType | imageDataSize | hPixelsPerMeter | vPixelsPerMeter
  | colorsUsed | colorsRequired
  deriving DecidableEq, Repr

/-- The two field widths of the header (R46). -/
inductive FieldWidth where
  | half | word
  deriving DecidableEq, Repr

/-- One row of R46's table. -/
structure HeaderField where
  offset : Nat
  width : FieldWidth
  name : FieldName
  deriving DecidableEq, Repr

/-- The size of a field in bytes. -/
def fieldBytes : FieldWidth → Nat
  | .half => Config.halfBytes
  | .word => Config.wordBytes

/-- The header rows of R46's table. -/
def headerFields : List HeaderField :=
  [ ⟨0, .half, .magic⟩, ⟨2, .word, .fileSize⟩, ⟨6, .half, .reserved1⟩, ⟨8, .half, .reserved2⟩,
    ⟨10, .word, .dataOffset⟩, ⟨14, .word, .headerSize⟩, ⟨18, .word, .width⟩, ⟨22, .word, .height⟩,
    ⟨26, .half, .planes⟩, ⟨28, .half, .bitsPerPixel⟩, ⟨30, .word, .compressionType⟩,
    ⟨34, .word, .imageDataSize⟩, ⟨38, .word, .hPixelsPerMeter⟩, ⟨42, .word, .vPixelsPerMeter⟩,
    ⟨46, .word, .colorsUsed⟩, ⟨50, .word, .colorsRequired⟩ ]

/-- The command that unmarshals a field (R46). -/
def unmarshalField (f : HeaderField) : Instr :=
  match f.width with
  | .half => .unm16
  | .word => .unm32

/-- The command that marshals the value `v` of a field (R46). -/
def marshalField (f : HeaderField) (v : Word) : Instr :=
  match f.width with
  | .half => .mar16 (v.extractLsb' 0 16)
  | .word => .mar32 v

/-- The sixteen reads of a header decode, in order (R47). -/
def headerDecode : List Instr := headerFields.map unmarshalField

/-- The sixteen writes of a header encode, in order (R48). -/
def headerEncode (value : FieldName → Word) : List Instr :=
  headerFields.map fun f => marshalField f (value f.name)

/-- The value a field has in a file created for the loaded geometry: the last column of R46's table. -/
def createdField (r : Regs) : FieldName → Word
  | .magic => 0x4D42
  | .fileSize => r.filesize
  | .reserved1 => 0
  | .reserved2 => 0
  | .dataOffset => r.dataofs
  | .headerSize => word32 Config.infoHdrBytes
  | .width => r.width
  | .height => r.height
  | .planes => 1
  | .bitsPerPixel => zext32 16 r.bpp
  | .compressionType => 0
  | .imageDataSize => r.imgsize
  | .hPixelsPerMeter => 0
  | .vPixelsPerMeter => 0
  | .colorsUsed => 0
  | .colorsRequired => 0

/-- The file offset of payload offset `o` (R36). -/
def Regs.fileOffset (r : Regs) (o : Nat) : Nat := r.dataofs.toNat + o

/-- What one byte of a pixel or of a palette entry is (R50, R51, R89). -/
inductive Channel where
  | blue | green | red
  /-- The fourth byte of a 32-bit pixel, "Alpha/unused" (R51). -/
  | alpha
  /-- The one byte of an 8-bit pixel (R51). -/
  | paletteIndex
  /-- The fourth byte of a palette entry (R50). -/
  | reserved
  deriving DecidableEq, Repr

/-- The file offset of palette entry `i`, when the depth is 8 (R50). -/
def paletteEntryOffset (i : Nat) : Nat := Config.hdrBytes + Config.palEntryBytes * i

/-- Byte `c` of a palette entry: Blue, Green, Red, reserved, in that order (R50). -/
def paletteChannelOf (c : Nat) : Option Channel :=
  match c with
  | 0 => some .blue
  | 1 => some .green
  | 2 => some .red
  | 3 => some .reserved
  | _ => none

/-- The palette entry and the byte of it at file offset `o` of a file with the loaded geometry; `none` where no
palette byte stands, as everywhere in a file whose depth is not 8 (R50). -/
def Regs.locatePalette (r : Regs) (o : Nat) : Option (Nat × Channel) :=
  if Config.hdrBytes ≤ o ∧ o < Config.hdrBytes + r.palsize.toNat then
    (paletteChannelOf ((o - Config.hdrBytes) % Config.palEntryBytes)).map fun k =>
      ((o - Config.hdrBytes) / Config.palEntryBytes, k)
  else none

/-- The payload offset of physical row `p` (R51). -/
def Regs.physicalRowOffset (r : Regs) (p : Nat) : Nat := p * r.stride.toNat

/-- The other index of a row of the image: the logical row stored as physical row `p`, and the physical row that
holds logical row `p` (R51, R86). -/
def Regs.otherRow (r : Regs) (p : Nat) : Nat := (sint32 r.height).toNat - 1 - p

/-- The logical row a host moves as the `k`-th row of the payload (R53, R113). -/
def Regs.kthMovedRow (r : Regs) (k : Nat) : Nat := r.otherRow k

/-- The first row byte of pixel `x` of a row (R51). -/
def Regs.pixelRowByte (r : Regs) (x : Nat) : Nat := x * r.bypp.toNat

/-- Channel `c` of a pixel of depth `bpp` (R51, R89). -/
def channelOf (bpp c : Nat) : Option Channel :=
  if bpp = 8 then (if c = 0 then some .paletteIndex else none)
  else match c with
    | 0 => some .blue
    | 1 => some .green
    | 2 => some .red
    | 3 => if bpp = 32 then some .alpha else none
    | _ => none

/-- What a byte of the payload belongs to (R89). -/
inductive PayloadByte where
  /-- Byte `b` of logical row `y` is padding. -/
  | padding (y b : Nat)
  /-- The byte is channel `c` of pixel `(x, y)`. -/
  | pixel (x y c : Nat)
  deriving DecidableEq, Repr

/-- The inverse map of a payload offset `o < x[IMGSIZE]` (R89). -/
def Regs.locate (r : Regs) (o : Nat) : PayloadByte :=
  if r.rowbytes.toNat ≤ o % r.stride.toNat then
    .padding (r.otherRow (o / r.stride.toNat)) (o % r.stride.toNat)
  else
    .pixel (o % r.stride.toNat / r.bypp.toNat) (r.otherRow (o / r.stride.toNat))
      (o % r.stride.toNat % r.bypp.toNat)

end Sys2Proof.Machine
end

