-- ==== Sys2Proof/Machine/Streams.lean ====
section
/-!
DEFINITION. The host's side of the two streams: its duties and liberties (70_reset_and_hazards.md R111), its abort on
a short transfer (R112), and the sequential run of a list of host actions (20_memory.md R55, R115). The streams are
the host's and no part of the machine's state (10_state.md R13; log entry 10).
-/
namespace Sys2Proof.Machine

/-- The host's two streams. -/
structure Streams where
  /-- The bytes of IN not yet read, next byte first. -/
  input : List Byte
  /-- The bytes appended to OUT so far, first byte first. -/
  output : List Byte
  deriving DecidableEq, Repr

/-- The presentation duty of R111: every lane below `avail` holds the stream's byte at that position. Which
`in_avail` the host presents, and what stands on the other lanes, is its liberty. -/
abbrev Streams.Offers (st : Streams) (p : InPort) : Prop :=
  ∀ k : Fin 4, k.val < p.avail → st.input[k.val]? = some (lane p.inData k.val)

/-- What the host does with a response (R111): it advances IN by `in_consumed` bytes and appends the first
`out_count` lanes to OUT. -/
def Streams.absorb (st : Streams) (r : Response) : Streams :=
  { input := st.input.drop r.inConsumed.toNat, output := st.output ++ r.outBytes }

/-- At most four bytes on the lanes of a port, first byte in lane 0, the other lanes 0 (R20, R111). -/
def packLanes (bs : List Byte) : Word :=
  (bs.take Config.portBytes).foldr (fun b acc => (acc <<< 8) ||| b.setWidth 32) 0#32

/-- One presentation the duty allows: all that is left, up to seven (the liberty 95_test_vectors.md P1 takes). -/
def Streams.offer (st : Streams) : InPort :=
  { inOk := true, inAvail := BitVec.ofNat 3 (min st.input.length 7), inData := packLanes st.input }

/-- A sink that always has room (95_test_vectors.md P2). -/
def OutPort.roomy : OutPort := { outOk := true, outSpace := 7 }

/-- What the host of 95_test_vectors.md section 3 does: it issues a command, or moves pixel bytes itself (R74,
R111). -/
inductive HostAction where
  | command (c : Command)
  /-- Read `n` pixel bytes from IN. -/
  | takePixels (n : Nat)
  /-- Write pixel bytes to OUT. -/
  | putPixels (bs : List Byte)
  deriving DecidableEq, Repr

/-- How a host's run ends. -/
inductive HostEnd where
  /-- Every action was taken. -/
  | finished
  /-- A transfer came up short, and the host treats the whole operation as failed (R112). -/
  | aborted
  deriving DecidableEq, Repr

/-- What a host's run leaves: how it ended, the machine, and the two streams. -/
structure HostRun where
  ended : HostEnd
  state : State
  streams : Streams
  deriving DecidableEq, Repr

/-- The host's run of a list of actions, each after the one before it has been answered and absorbed (R55, R110). A
short transfer aborts it, be it a command's SHORT or the host's own read of pixel bytes (R112). DESIGN CHOICE (log
entry 13), unsafe: the spec does not say how many bytes a pixel read that finds too few of them consumes, and this
host takes none; the machine is left as the last answered command left it. -/
def hostRun : List HostAction → State → Streams → Host.Outcome HostRun Fault Refusal
  | [], s, st => .next ⟨.finished, s, st⟩
  | .takePixels n :: rest, s, st =>
    if st.input.length < n then .next ⟨.aborted, s, st⟩ else hostRun rest s { st with input := st.input.drop n }
  | .putPixels bs :: rest, s, st => hostRun rest s { st with output := st.output ++ bs }
  | .command c :: rest, s, st =>
    match step { s with inputs := .command ⟨c, st.offer, OutPort.roomy⟩ :: s.inputs } with
    | .next t =>
      if t.response.status = .short then .next ⟨.aborted, t, st⟩ else hostRun rest t (st.absorb t.response)
    | .fault r => .fault r
    | .refused r => .refused r

end Sys2Proof.Machine
end

