-- ==== Sys2Proof/Safety.lean ====
section
/-!
DEFINITION. The terms the statements are made in: the register file's invariant (10_state.md R15 to R18), the
numbers its rules name, and what a command word with a selector it must not have is answered with.
-/
namespace Sys2Proof.Machine

/-- What registers 1 to 11 hold while VALID is 1 (R14 to R17), in exact integers. -/
abbrev Regs.Loaded (r : Regs) : Prop :=
  0 < sint32 r.width ∧ 0 < sint32 r.height ∧
  (r.bpp.toNat = 8 ∨ r.bpp.toNat = 24 ∨ r.bpp.toNat = 32) ∧
  r.bypp.toNat = r.bpp.toNat / 8 ∧
  (r.rowbytes.toNat : Int) = sint32 r.width * r.bypp.toNat ∧
  r.stride.toNat = (r.rowbytes.toNat + 3) / 4 * 4 ∧
  r.pad.toNat = r.stride.toNat - r.rowbytes.toNat ∧
  r.palsize.toNat = (if r.bpp.toNat = 8 then 1024 else 0) ∧
  r.dataofs.toNat = 54 + r.palsize.toNat ∧
  (r.imgsize.toNat : Int) = r.stride.toNat * sint32 r.height ∧
  r.filesize.toNat = r.dataofs.toNat + r.imgsize.toNat

/-- The invariant of the register file: loaded as R14 to R17 say while VALID is 1, and all 0 while it is 0 (R18). -/
abbrev Regs.Consistent (r : Regs) : Prop :=
  (r.gstat = 1#1 → r.Loaded) ∧ (r.gstat = 0#1 → r = Regs.reset)

/-- The width as a natural number; R82's `W` where it is positive. -/
def Regs.W (r : Regs) : Nat := (sint32 r.width).toNat

/-- The height as a natural number; R82's `H` where it is positive. -/
def Regs.H (r : Regs) : Nat := (sint32 r.height).toNat

/-- Whatever stands on the buses and the ports and whatever the state, the command word `cmd` is answered ILLEGAL
with no register written and no byte moved (R62, R63, R92, R95). -/
def AnsweredIllegal (cmd : BitVec 8) : Prop :=
  ∀ (s : State) (t : Transaction) (rest : List HostInput),
    s.inputs = .command t :: rest → t.command.cmd = cmd →
    step s = .next ((s.present t rest).respond
      { status := .illegal, result := 0, inConsumed := 0, outData := 0, outCount := 0 })

/-- Every command word with operation code `op` and a selector other than 0 is answered ILLEGAL (R62). -/
def SelectorMustBeZero (op : BitVec 4) : Prop := ∀ sel : BitVec 4, sel ≠ 0#4 → AnsweredIllegal (cmdWord sel op)

end Sys2Proof.Machine
end

