-- ==== Sys2Proof/Certificates/Slice0/Obligations.lean ====
section
/-!
DEFINITION. The statements about the block. A statement "about the command's own rule" gives, in this order, its
encoding (30_encoding.md R58), what a selector it must not have is answered with (R62), and then, over every state,
the effect and each raised status with the exact condition of each; every conclusion is an equation for the whole
next state, so it is a frame as well: `s.respond r` differs from `s` in nothing but the response port and the list
of responses given.
-/
open Sys2Proof Sys2Proof.Machine

/-! ### Encoding -/

/-- 30_encoding.md R58 with the operand use of R59: every row of the opcode map, whatever stands on the buses. The
last clause is the reserved rows. -/
def Obligations.DecoderReadsTheOpcodeMap : Prop :=
  ∀ (a b : Word) (c : Half),
    decode ⟨0x00#8, a, b, c⟩ = .ok .nop ∧
    decode ⟨0x01#8, a, b, c⟩ = .ok .unm16 ∧
    decode ⟨0x02#8, a, b, c⟩ = .ok .unm32 ∧
    decode ⟨0x03#8, a, b, c⟩ = .ok (.mar16 (a.extractLsb' 0 16)) ∧
    decode ⟨0x04#8, a, b, c⟩ = .ok (.mar32 a) ∧
    decode ⟨0x05#8, a, b, c⟩ = .ok (.geom a b c) ∧
    decode ⟨0x06#8, a, b, c⟩ = .ok .gclr ∧
    (∀ sel : BitVec 4, sel.toNat < 12 → decode ⟨sel ++ 0x7#4, a, b, c⟩ = .ok (.rdreg sel)) ∧
    decode ⟨0x08#8, a, b, c⟩ = .ok (.rowrev a) ∧
    decode ⟨0x09#8, a, b, c⟩ = .ok (.rowaddr a) ∧
    decode ⟨0x0A#8, a, b, c⟩ = .ok (.pixaddr a b) ∧
    decode ⟨0x0B#8, a, b, c⟩ = .ok .skippad ∧
    decode ⟨0x0C#8, a, b, c⟩ = .ok .emitpad ∧
    (∀ (sel op : BitVec 4) (i : Instr), 0xD ≤ op.toNat → decode ⟨sel ++ op, a, b, c⟩ ≠ .ok i)

/-- Every well-formed instruction, with every operand at every value, is what its own command decodes to. Rests on
the encoder's reading of R57, R58 and R65. -/
def Obligations.DecodeOfEncodeIsTheInstruction : Prop :=
  ∀ i : Instr, i.wellFormed = true → decode (encode i) = .ok i

/-- The other direction: a legal command decodes to a well-formed instruction of the same command word, and two legal
commands that decode alike have the same word (each word has one meaning, R62, R64). -/
def Obligations.DecodedInstructionKeepsItsWord : Prop :=
  ∀ (c : Command) (i : Instr), decode c = .ok i → i.wellFormed = true ∧ (encode i).cmd = c.cmd

/-- 30_encoding.md R62 and R63: a command is ILLEGAL iff one of the three clauses holds; such a command raises
ILLEGAL, changes no register and moves no byte, whatever the state and the ports; every other command word is a
command of R58. -/
def Obligations.IllegalIffReservedEncoding : Prop :=
  ∀ c : Command,
    (13 ≤ c.cmd.toNat % 16 ∨ (c.cmd.toNat % 16 ≠ 7 ∧ c.cmd.toNat / 16 ≠ 0) ∨
        (c.cmd.toNat % 16 = 7 ∧ 12 ≤ c.cmd.toNat / 16) →
      (∀ i, decode c ≠ .ok i) ∧ AnsweredIllegal c.cmd) ∧
    (¬ (13 ≤ c.cmd.toNat % 16 ∨ (c.cmd.toNat % 16 ≠ 7 ∧ c.cmd.toNat / 16 ≠ 0) ∨
        (c.cmd.toNat % 16 = 7 ∧ 12 ≤ c.cmd.toNat / 16)) →
      ∃ i, decode c = .ok i)

/-- The count of 30_encoding.md R64, an inference the spec marks as its own: of the 256 command words 24 are legal, and
twelve of them are RDREG's. -/
def Obligations.LegalCommandWordsAreTwentyFour : Prop :=
  ((List.range 256).filter fun n => (decodeTableWord 8 n).isSome).length = 24 ∧
  ((List.range 256).filter fun n => (decodeTableWord 8 n).isSome && decide (n % 16 = 7)).length = 12

/-! ### The step -/

/-- A step on a presented command that decodes to `i` is `exec i` on the state whose ports are the command's snapshot
and whose inputs are the rest. Rests on log entry 1 (how the host's input is held). -/
def Obligations.StepRunsTheDecodedCommand : Prop :=
  ∀ (s : State) (t : Transaction) (rest : List HostInput) (i : Instr),
    s.inputs = .command t :: rest → decode t.command = .ok i →
    step s = exec i { s with inPort := t.inPort, outPort := t.outPort, inputs := rest }

/-- 70_reset_and_hazards.md R105: reset clears all twelve registers, both in the state the machine starts in and when
the host asserts it; slots 12 to 15 have no storage; it is the state of the registers GCLR leaves. -/
def Obligations.ResetClearsEveryRegister : Prop :=
  State.reset.regs = ⟨0, 0, 0, 0, 0, 0, 0, 0, 0, 0, 0, 0⟩ ∧
  (∀ (r : Regs) (sel : BitVec 4), (r.read sel).isSome = decide (sel.toNat < 12)) ∧
  ∀ (s : State) (rest : List HostInput), s.inputs = .reset :: rest →
    ∃ t u : State, step s = .next t ∧ t.regs = ⟨0, 0, 0, 0, 0, 0, 0, 0, 0, 0, 0, 0⟩ ∧
      exec .gclr s = .next u ∧ u.regs = t.regs

/-- The response port from reset until the first command (R106), and what reset leaves alone: the streams and the
responses already given (R107 and the model's choice of log entry 7). -/
def Obligations.ResetLeavesAnIdleResponse : Prop :=
  State.reset.response = ⟨.ok, 0, 0, 0, 0⟩ ∧ State.reset.history = [] ∧
  ∀ (s : State) (rest : List HostInput), s.inputs = .reset :: rest →
    ∃ t : State, step s = .next t ∧ t.response = ⟨.ok, 0, 0, 0, 0⟩ ∧ t.inputs = rest ∧
      t.bytesConsumed = s.bytesConsumed ∧ t.bytesEmitted = s.bytesEmitted

/-- What the model does where the spec gives no step: it stops, each time by a name of its own (R107, R110, R115; log
entries 4 and 5). -/
def Obligations.StepStopsWhereTheSpecHasNoStep : Prop :=
  ∀ s : State,
    (s.inputs = [] → step s = .fault .noCommand) ∧
    (∀ (t : Transaction) (rest : List HostInput), s.inputs = .resetDuring t :: rest →
      step s = .refused .resetDuringCommand) ∧
    (∀ (t u : Transaction) (rest : List HostInput), s.inputs = .overlap t u :: rest →
      step s = .refused .overlappingCommands)

/-- Every presented command gets its response in one transaction (R114), never a trap, a fault or a refusal (R102,
R103), and takes exactly itself off the host's inputs (R55). -/
def Obligations.EveryPresentedCommandIsAnswered : Prop :=
  ∀ (s : State) (t : Transaction) (rest : List HostInput), s.inputs = .command t :: rest →
    ∃ u : State, step s = .next u ∧ u.inputs = rest ∧ u.history = u.response :: s.history

/-- What R115 observes of one command: the bytes consumed grow by `in_consumed` and OUT grows by the first `out_count`
lanes of the response, in lane order. -/
def Obligations.ObservedBytesGrowByTheResponse : Prop :=
  ∀ (s u : State) (t : Transaction) (rest : List HostInput),
    s.inputs = .command t :: rest → step s = .next u →
    u.bytesConsumed = s.bytesConsumed + u.response.inConsumed.toNat ∧
    u.bytesEmitted = s.bytesEmitted ++ (List.range u.response.outCount.toNat).map (lane u.response.outData)

/-! ### The codec commands -/

/-- 40_codec.md R67. -/
def Obligations.Unm16ReadsALittleEndianHalfword : Prop :=
  (∀ (a b : Word) (c : Half), decode ⟨0x01#8, a, b, c⟩ = .ok .unm16) ∧
  SelectorMustBeZero 0x1#4 ∧
  ∀ s : State,
    (s.inPort.inOk = true ∧ 2 ≤ min s.inPort.inAvail.toNat 4 →
      exec .unm16 s = .next (s.respond
        { status := .ok
          result := 0#16 ++ s.inPort.inData.extractLsb' 8 8 ++ s.inPort.inData.extractLsb' 0 8
          inConsumed := 2, outData := 0, outCount := 0 })) ∧
    (¬ (s.inPort.inOk = true ∧ 2 ≤ min s.inPort.inAvail.toNat 4) →
      exec .unm16 s = .next (s.respond ⟨.short, 0, 0, 0, 0⟩))

/-- 40_codec.md R68. -/
def Obligations.Unm32ReadsALittleEndianWord : Prop :=
  (∀ (a b : Word) (c : Half), decode ⟨0x02#8, a, b, c⟩ = .ok .unm32) ∧
  SelectorMustBeZero 0x2#4 ∧
  ∀ s : State,
    (s.inPort.inOk = true ∧ 4 ≤ min s.inPort.inAvail.toNat 4 →
      exec .unm32 s = .next (s.respond
        { status := .ok
          result := s.inPort.inData.extractLsb' 24 8 ++ s.inPort.inData.extractLsb' 16 8 ++
            s.inPort.inData.extractLsb' 8 8 ++ s.inPort.inData.extractLsb' 0 8
          inConsumed := 4, outData := 0, outCount := 0 })) ∧
    (¬ (s.inPort.inOk = true ∧ 4 ≤ min s.inPort.inAvail.toNat 4) →
      exec .unm32 s = .next (s.respond ⟨.short, 0, 0, 0, 0⟩))

/-- 40_codec.md R69. -/
def Obligations.Mar16EmitsTwoBytesLowFirst : Prop :=
  (∀ (a b : Word) (c : Half), decode ⟨0x03#8, a, b, c⟩ = .ok (.mar16 (a.extractLsb' 0 16))) ∧
  SelectorMustBeZero 0x3#4 ∧
  ∀ (s : State) (v : Half),
    (s.outPort.outOk = true ∧ 2 ≤ min s.outPort.outSpace.toNat 4 →
      ∃ d : Word, lane d 0 = v.extractLsb' 0 8 ∧ lane d 1 = v.extractLsb' 8 8 ∧ lane d 2 = 0 ∧ lane d 3 = 0 ∧
        exec (.mar16 v) s = .next (s.respond
          { status := .ok, result := 0, inConsumed := 0, outData := d, outCount := 2 })) ∧
    (¬ (s.outPort.outOk = true ∧ 2 ≤ min s.outPort.outSpace.toNat 4) →
      exec (.mar16 v) s = .next (s.respond ⟨.short, 0, 0, 0, 0⟩))

/-- 40_codec.md R70. -/
def Obligations.Mar32EmitsFourBytesLowFirst : Prop :=
  (∀ (a b : Word) (c : Half), decode ⟨0x04#8, a, b, c⟩ = .ok (.mar32 a)) ∧
  SelectorMustBeZero 0x4#4 ∧
  ∀ (s : State) (v : Word),
    (s.outPort.outOk = true ∧ 4 ≤ min s.outPort.outSpace.toNat 4 →
      ∃ d : Word, lane d 0 = v.extractLsb' 0 8 ∧ lane d 1 = v.extractLsb' 8 8 ∧
        lane d 2 = v.extractLsb' 16 8 ∧ lane d 3 = v.extractLsb' 24 8 ∧
        exec (.mar32 v) s = .next (s.respond
          { status := .ok, result := 0, inConsumed := 0, outData := d, outCount := 4 })) ∧
    (¬ (s.outPort.outOk = true ∧ 4 ≤ min s.outPort.outSpace.toNat 4) →
      exec (.mar32 v) s = .next (s.respond ⟨.short, 0, 0, 0, 0⟩))

/-- 40_codec.md R71. The next state does not depend on the values of the bytes consumed: `in_data` stands in no
conclusion. -/
def Obligations.SkippadConsumesThePadding : Prop :=
  (∀ (a b : Word) (c : Half), decode ⟨0x0B#8, a, b, c⟩ = .ok .skippad) ∧
  SelectorMustBeZero 0xB#4 ∧
  ∀ s : State,
    (s.regs.gstat = 0#1 → exec .skippad s = .next (s.respond ⟨.invalidArg, 0, 0, 0, 0⟩)) ∧
    (s.regs.gstat = 1#1 → s.regs.pad ≠ 0#2 →
      ¬ (s.inPort.inOk = true ∧ s.regs.pad.toNat ≤ min s.inPort.inAvail.toNat 4) →
      exec .skippad s = .next (s.respond ⟨.short, 0, 0, 0, 0⟩)) ∧
    (s.regs.gstat = 1#1 →
      (s.regs.pad = 0#2 ∨ (s.inPort.inOk = true ∧ s.regs.pad.toNat ≤ min s.inPort.inAvail.toNat 4)) →
      exec .skippad s = .next (s.respond
        { status := .ok, result := 0, inConsumed := 0#1 ++ s.regs.pad, outData := 0, outCount := 0 }))

/-- 40_codec.md R72. -/
def Obligations.EmitpadEmitsZeroBytes : Prop :=
  (∀ (a b : Word) (c : Half), decode ⟨0x0C#8, a, b, c⟩ = .ok .emitpad) ∧
  SelectorMustBeZero 0xC#4 ∧
  ∀ s : State,
    (s.regs.gstat = 0#1 → exec .emitpad s = .next (s.respond ⟨.invalidArg, 0, 0, 0, 0⟩)) ∧
    (s.regs.gstat = 1#1 → s.regs.pad ≠ 0#2 →
      ¬ (s.outPort.outOk = true ∧ s.regs.pad.toNat ≤ min s.outPort.outSpace.toNat 4) →
      exec .emitpad s = .next (s.respond ⟨.short, 0, 0, 0, 0⟩)) ∧
    (s.regs.gstat = 1#1 →
      (s.regs.pad = 0#2 ∨ (s.outPort.outOk = true ∧ s.regs.pad.toNat ≤ min s.outPort.outSpace.toNat 4)) →
      exec .emitpad s = .next (s.respond
        { status := .ok, result := 0, inConsumed := 0, outData := 0, outCount := 0#1 ++ s.regs.pad }))

/-! ### The geometry and control commands -/

/-- 41_geometry.md R76. -/
def Obligations.NopDoesNothing : Prop :=
  (∀ (a b : Word) (c : Half), decode ⟨0x00#8, a, b, c⟩ = .ok .nop) ∧
  SelectorMustBeZero 0x0#4 ∧
  ∀ s : State, exec .nop s = .next (s.respond ⟨.ok, 0, 0, 0, 0⟩)

/-- 41_geometry.md R77 and R78: the three refusals in their order, and the twelve writes and the result of a GEOM that
succeeds, as exact integers. -/
def Obligations.GeomLoadsTheGeometryOrRaises : Prop :=
  (∀ (a b : Word) (c : Half), decode ⟨0x05#8, a, b, c⟩ = .ok (.geom a b c)) ∧
  SelectorMustBeZero 0x5#4 ∧
  ∀ (s : State) (w h : Word) (d : Half),
    let depthOk := d.toNat = 8 ∨ d.toNat = 24 ∨ d.toNat = 32
    let rowbytes : Int := sint32 w * ((d.toNat / 8 : Nat) : Int)
    let stride : Int := (rowbytes + 3) / 4 * 4
    let pal : Int := if d.toNat = 8 then 1024 else 0
    let img : Int := stride * sint32 h
    (sint32 w ≤ 0 ∨ sint32 h ≤ 0 →
      exec (.geom w h d) s = .next (s.respond ⟨.invalidArg, 0, 0, 0, 0⟩)) ∧
    (0 < sint32 w → 0 < sint32 h → ¬ depthOk →
      exec (.geom w h d) s = .next (s.respond ⟨.unsupported, 0, 0, 0, 0⟩)) ∧
    (0 < sint32 w → 0 < sint32 h → depthOk → 0xFFFFFFFF < 54 + pal + img →
      exec (.geom w h d) s = .next (s.respond ⟨.overflow, 0, 0, 0, 0⟩)) ∧
    (0 < sint32 w → 0 < sint32 h → depthOk → 54 + pal + img ≤ 0xFFFFFFFF →
      ∃ r : Regs,
        exec (.geom w h d) s = .next ({ s with regs := r }.respond ⟨.ok, r.stride, 0, 0, 0⟩) ∧
        r.gstat = 1#1 ∧ r.width = w ∧ r.height = h ∧ r.bpp = d ∧ r.bypp.toNat = d.toNat / 8 ∧
        (r.rowbytes.toNat : Int) = rowbytes ∧ (r.stride.toNat : Int) = stride ∧
        (r.pad.toNat : Int) = stride - rowbytes ∧ (r.palsize.toNat : Int) = pal ∧
        (r.dataofs.toNat : Int) = 54 + pal ∧ (r.imgsize.toNat : Int) = img ∧
        (r.filesize.toNat : Int) = 54 + pal + img)

/-- 41_geometry.md R79. -/
def Obligations.GclrClearsEveryRegister : Prop :=
  (∀ (a b : Word) (c : Half), decode ⟨0x06#8, a, b, c⟩ = .ok .gclr) ∧
  SelectorMustBeZero 0x6#4 ∧
  ∀ s : State, exec .gclr s =
    .next ({ s with regs := ⟨0, 0, 0, 0, 0, 0, 0, 0, 0, 0, 0, 0⟩ }.respond ⟨.ok, 0, 0, 0, 0⟩)

/-- 41_geometry.md R80: every slot, with the bits R14 does not list as used reading 0. -/
def Obligations.RdregReadsEachRegister : Prop :=
  (∀ (sel : BitVec 4) (a b : Word) (c : Half), sel.toNat < 12 →
    decode ⟨sel ++ 0x7#4, a, b, c⟩ = .ok (.rdreg sel)) ∧
  (∀ sel : BitVec 4, 12 ≤ sel.toNat → AnsweredIllegal (sel ++ 0x7#4)) ∧
  ∀ s : State,
    exec (.rdreg 0) s = .next (s.respond ⟨.ok, 0#31 ++ s.regs.gstat, 0, 0, 0⟩) ∧
    (s.regs.gstat = 0#1 → ∀ sel : BitVec 4, sel ≠ 0#4 → sel.toNat < 12 →
      exec (.rdreg sel) s = .next (s.respond ⟨.invalidArg, 0, 0, 0, 0⟩)) ∧
    (s.regs.gstat = 1#1 →
      exec (.rdreg 1) s = .next (s.respond ⟨.ok, s.regs.width, 0, 0, 0⟩) ∧
      exec (.rdreg 2) s = .next (s.respond ⟨.ok, s.regs.height, 0, 0, 0⟩) ∧
      exec (.rdreg 3) s = .next (s.respond ⟨.ok, 0#16 ++ s.regs.bpp, 0, 0, 0⟩) ∧
      exec (.rdreg 4) s = .next (s.respond ⟨.ok, 0#29 ++ s.regs.bypp, 0, 0, 0⟩) ∧
      exec (.rdreg 5) s = .next (s.respond ⟨.ok, s.regs.rowbytes, 0, 0, 0⟩) ∧
      exec (.rdreg 6) s = .next (s.respond ⟨.ok, s.regs.stride, 0, 0, 0⟩) ∧
      exec (.rdreg 7) s = .next (s.respond ⟨.ok, 0#30 ++ s.regs.pad, 0, 0, 0⟩) ∧
      exec (.rdreg 8) s = .next (s.respond ⟨.ok, 0#21 ++ s.regs.palsize, 0, 0, 0⟩) ∧
      exec (.rdreg 9) s = .next (s.respond ⟨.ok, s.regs.dataofs, 0, 0, 0⟩) ∧
      exec (.rdreg 10) s = .next (s.respond ⟨.ok, s.regs.imgsize, 0, 0, 0⟩) ∧
      exec (.rdreg 11) s = .next (s.respond ⟨.ok, s.regs.filesize, 0, 0, 0⟩))

/-- The laws of a successful GEOM, an inference the spec marks as its own (41_geometry.md R81). -/
def Obligations.GeomStrideAndPadLaws : Prop :=
  ∀ (s t : State) (w h : Word) (d : Half),
    exec (.geom w h d) s = .next t → t.response.status = .ok →
    t.regs.stride.toNat % 4 = 0 ∧
    t.regs.rowbytes.toNat ≤ t.regs.stride.toNat ∧ t.regs.stride.toNat ≤ t.regs.rowbytes.toNat + 3 ∧
    (t.regs.pad = 0#2 ↔ t.regs.rowbytes.toNat % 4 = 0) ∧
    t.regs.imgsize.toNat % 4 = 0 ∧ t.regs.dataofs.toNat % 4 = 2

/-! ### The row and address commands -/

/-- 42_rows.md R83 (with the check of R82). The result is an exact integer, so it is never negative. -/
def Obligations.RowrevReversesTheRowIndex : Prop :=
  (∀ (a b : Word) (c : Half), decode ⟨0x08#8, a, b, c⟩ = .ok (.rowrev a)) ∧
  SelectorMustBeZero 0x8#4 ∧
  ∀ (s : State) (y : Word),
    (s.regs.gstat = 1#1 ∧ (y.toNat : Int) < sint32 s.regs.height →
      ∃ v : Word, (v.toNat : Int) = sint32 s.regs.height - 1 - y.toNat ∧
        exec (.rowrev y) s = .next (s.respond ⟨.ok, v, 0, 0, 0⟩)) ∧
    (¬ (s.regs.gstat = 1#1 ∧ (y.toNat : Int) < sint32 s.regs.height) →
      exec (.rowrev y) s = .next (s.respond ⟨.invalidArg, 0, 0, 0, 0⟩))

/-- 42_rows.md R84 (with the check of R82), with the file offset a payload offset stands for. The first clause is over
the states the invariant allows, in which the offset fits the bus (R87). -/
def Obligations.RowaddrGivesTheRowOffset : Prop :=
  (∀ (a b : Word) (c : Half), decode ⟨0x09#8, a, b, c⟩ = .ok (.rowaddr a)) ∧
  SelectorMustBeZero 0x9#4 ∧
  ∀ (s : State) (y : Word),
    (s.regs.Consistent → s.regs.gstat = 1#1 ∧ (y.toNat : Int) < sint32 s.regs.height →
      ∃ v : Word, (v.toNat : Int) = (sint32 s.regs.height - 1 - y.toNat) * s.regs.stride.toNat ∧
        s.regs.fileOffset v.toNat = s.regs.dataofs.toNat + v.toNat ∧
        exec (.rowaddr y) s = .next (s.respond ⟨.ok, v, 0, 0, 0⟩)) ∧
    (¬ (s.regs.gstat = 1#1 ∧ (y.toNat : Int) < sint32 s.regs.height) →
      exec (.rowaddr y) s = .next (s.respond ⟨.invalidArg, 0, 0, 0, 0⟩))

/-- 42_rows.md R85 (with the check of R82), over the states the invariant allows, and what the bytes of a 24-bit and a
32-bit pixel hold, in order. -/
def Obligations.PixaddrGivesThePixelOffset : Prop :=
  (∀ (a b : Word) (c : Half), decode ⟨0x0A#8, a, b, c⟩ = .ok (.pixaddr a b)) ∧
  SelectorMustBeZero 0xA#4 ∧
  (∀ bpp : Nat, bpp = 24 ∨ bpp = 32 →
    channelOf bpp 0 = some .blue ∧ channelOf bpp 1 = some .green ∧ channelOf bpp 2 = some .red) ∧
  channelOf 32 3 = some .alpha ∧
  ∀ (s : State) (x y : Word),
    (s.regs.Consistent →
      s.regs.gstat = 1#1 ∧ (x.toNat : Int) < sint32 s.regs.width ∧ (y.toNat : Int) < sint32 s.regs.height →
      ∃ v : Word,
        (v.toNat : Int) = (sint32 s.regs.height - 1 - y.toNat) * s.regs.stride.toNat + x.toNat * s.regs.bypp.toNat ∧
        exec (.pixaddr x y) s = .next (s.respond ⟨.ok, v, 0, 0, 0⟩)) ∧
    (¬ (s.regs.gstat = 1#1 ∧ (x.toNat : Int) < sint32 s.regs.width ∧ (y.toNat : Int) < sint32 s.regs.height) →
      exec (.pixaddr x y) s = .next (s.respond ⟨.invalidArg, 0, 0, 0, 0⟩))

/-- The laws of 42_rows.md R86, an inference the spec marks as its own: ROWREV is its own inverse, ROWADDR is ROWREV
times the stride, and PIXADDR of column 0 is ROWADDR. -/
def Obligations.RowrevIsItsOwnInverse : Prop :=
  ∀ (s : State) (y : Word), s.regs.Consistent → s.regs.gstat = 1#1 → (y.toNat : Int) < sint32 s.regs.height →
    ∃ t u a p : State, exec (.rowrev y) s = .next t ∧ exec (.rowrev t.response.result) t = .next u ∧
      u.response.status = .ok ∧ u.response.result = y ∧
      exec (.rowaddr y) s = .next a ∧ a.response.result.toNat = t.response.result.toNat * s.regs.stride.toNat ∧
      exec (.pixaddr 0#32 y) s = .next p ∧ p.response = a.response

/-- The range of 42_rows.md R87, an inference the spec marks as its own: an in-bounds pixel lies inside the payload and
none of its bytes is a padding byte. -/
def Obligations.PixelLiesInsideThePayload : Prop :=
  ∀ (s t : State) (x y : Word), s.regs.Consistent → exec (.pixaddr x y) s = .next t → t.response.status = .ok →
    t.response.result.toNat + s.regs.bypp.toNat ≤ s.regs.imgsize.toNat ∧
    ∀ k : Nat, k < s.regs.bypp.toNat →
      (t.response.result.toNat + k) % s.regs.stride.toNat < s.regs.rowbytes.toNat

/-- The separation of 42_rows.md R87, an inference the spec marks as its own: distinct in-bounds pixels have disjoint
bytes. -/
def Obligations.DistinctPixelsHaveDisjointBytes : Prop :=
  ∀ (s t u : State) (x y x' y' : Word), s.regs.Consistent →
    exec (.pixaddr x y) s = .next t → t.response.status = .ok →
    exec (.pixaddr x' y') s = .next u → u.response.status = .ok → (x, y) ≠ (x', y') →
    t.response.result.toNat + s.regs.bypp.toNat ≤ u.response.result.toNat ∨
    u.response.result.toNat + s.regs.bypp.toNat ≤ t.response.result.toNat

/-- The inverse map of 42_rows.md R89, an inference the spec marks as its own: it is defined on the whole payload, it
finds every byte of every pixel PIXADDR gives, and every byte it calls a pixel's is the one PIXADDR gives. -/
def Obligations.InverseMapAgreesWithPixaddr : Prop :=
  ∀ s : State, s.regs.Consistent → s.regs.gstat = 1#1 →
    (∀ (t : State) (x y : Word) (k : Nat), exec (.pixaddr x y) s = .next t → t.response.status = .ok →
      k < s.regs.bypp.toNat → s.regs.locate (t.response.result.toNat + k) = .pixel x.toNat y.toNat k) ∧
    (∀ o x y c : Nat, o < s.regs.imgsize.toNat → s.regs.locate o = .pixel x y c →
      c < s.regs.bypp.toNat ∧
      ∃ t : State, exec (.pixaddr (BitVec.ofNat 32 x) (BitVec.ofNat 32 y)) s = .next t ∧
        t.response.status = .ok ∧ t.response.result.toNat + c = o) ∧
    (∀ o y b : Nat, o < s.regs.imgsize.toNat → s.regs.locate o = .padding y b →
      s.regs.rowbytes.toNat ≤ b ∧ b < s.regs.stride.toNat ∧
      ∃ t : State, exec (.rowaddr (BitVec.ofNat 32 y)) s = .next t ∧
        t.response.status = .ok ∧ t.response.result.toNat + b = o)

/-- The orientation example of 42_rows.md R88, an inference the spec marks as its own: pixel (0, 0) of a 2 × 2, 24-bit
geometry is in the last physical row. -/
def Obligations.TopLeftPixelIsInTheLastStoredRow : Prop :=
  ∀ s : State, ∃ t u : State, exec (.geom 2#32 2#32 24#16) s = .next t ∧ t.response.status = .ok ∧
    exec (.pixaddr 0#32 0#32) t = .next u ∧ u.response.status = .ok ∧ u.response.result = 8#32 ∧
    t.regs.physicalRowOffset (t.regs.H - 1) = 8 ∧ t.regs.imgsize = 16#32

/-- Row alignment of 20_memory.md R42, an inference the spec marks as its own: rows start at multiples of 4 in the
payload and at 2 mod 4 in the file. -/
def Obligations.RowsAreFourAlignedInThePayload : Prop :=
  ∀ (s t : State) (y : Word), s.regs.Consistent → exec (.rowaddr y) s = .next t → t.response.status = .ok →
    t.response.result.toNat % 4 = 0 ∧ s.regs.fileOffset t.response.result.toNat % 4 = 2

/-- 20_memory.md R50, over the states the invariant allows: with depth 8 the palette is file offsets 54 to 1077, entry
`i` is bytes `54 + 4i` to `54 + 4i + 3`, Blue, Green, Red, reserved, and the payload starts right after it; with
another depth there is no palette and the payload starts at 54. -/
def Obligations.PaletteEntriesAreBlueGreenRedReserved : Prop :=
  ∀ r : Regs, r.Consistent → r.gstat = 1#1 →
    (r.bpp.toNat = 8 →
      (∀ i : Nat, i < 256 →
        r.locatePalette (54 + 4 * i) = some (i, .blue) ∧ r.locatePalette (54 + 4 * i + 1) = some (i, .green) ∧
        r.locatePalette (54 + 4 * i + 2) = some (i, .red) ∧ r.locatePalette (54 + 4 * i + 3) = some (i, .reserved)) ∧
      (∀ o : Nat, (r.locatePalette o).isSome = true ↔ 54 ≤ o ∧ o ≤ 1077) ∧ r.fileOffset 0 = 1078) ∧
    (r.bpp.toNat ≠ 8 → (∀ o : Nat, r.locatePalette o = none) ∧ r.fileOffset 0 = 54)

/-! ### Laws of the codec -/

/-- The round trip of 40_codec.md R73, an inference the spec marks as its own, for both widths, and the reverse trip of
the bytes. `q` is the state in which the second command is executed. -/
def Obligations.MarshalThenUnmarshalIsTheValue : Prop :=
  (∀ (s t q : State) (v : Half), exec (.mar16 v) s = .next t → t.response.status = .ok →
    q.inPort.inOk = true → 2 ≤ q.inPort.inAvail.toNat →
    (∀ k < t.response.outCount.toNat, lane q.inPort.inData k = lane t.response.outData k) →
    ∃ u, exec .unm16 q = .next u ∧ u.response.status = .ok ∧ u.response.result = v.setWidth 32) ∧
  (∀ (s t q : State) (v : Word), exec (.mar32 v) s = .next t → t.response.status = .ok →
    q.inPort.inOk = true → 4 ≤ q.inPort.inAvail.toNat →
    (∀ k < t.response.outCount.toNat, lane q.inPort.inData k = lane t.response.outData k) →
    ∃ u, exec .unm32 q = .next u ∧ u.response.status = .ok ∧ u.response.result = v) ∧
  (∀ (s t q u : State), exec .unm16 s = .next t → t.response.status = .ok →
    exec (.mar16 (t.response.result.extractLsb' 0 16)) q = .next u → u.response.status = .ok →
    u.response.outBytes = [lane s.inPort.inData 0, lane s.inPort.inData 1]) ∧
  (∀ (s t q u : State), exec .unm32 s = .next t → t.response.status = .ok →
    exec (.mar32 t.response.result) q = .next u → u.response.status = .ok →
    u.response.outBytes =
      [lane s.inPort.inData 0, lane s.inPort.inData 1, lane s.inPort.inData 2, lane s.inPort.inData 3])

/-- Mixed widths of 20_memory.md R40, an inference the spec marks as its own. -/
def Obligations.HalfwordsAndWordsAgree : Prop :=
  (∀ (s q t u v : State),
    lane q.inPort.inData 0 = lane s.inPort.inData 2 → lane q.inPort.inData 1 = lane s.inPort.inData 3 →
    exec .unm16 s = .next t → t.response.status = .ok → exec .unm16 q = .next u → u.response.status = .ok →
    exec .unm32 s = .next v → v.response.status = .ok →
    v.response.result.toNat = u.response.result.toNat * 65536 + t.response.result.toNat) ∧
  (∀ (s q r t u v : State) (w : Word),
    exec (.mar16 (w.extractLsb' 0 16)) s = .next t → t.response.status = .ok →
    exec (.mar16 (w.extractLsb' 16 16)) q = .next u → u.response.status = .ok →
    exec (.mar32 w) r = .next v → v.response.status = .ok →
    v.response.outBytes = t.response.outBytes ++ u.response.outBytes)

/-- One stored row of 40_codec.md R74, an inference the spec marks as its own: the bytes a successful SKIPPAD or
EMITPAD moves complete ROWBYTES to the stride, and `Height` such rows are the payload. -/
def Obligations.PadCommandsCompleteTheRow : Prop :=
  ∀ s t : State, s.regs.Consistent →
    (exec .skippad s = .next t → t.response.status = .ok →
      s.regs.rowbytes.toNat + t.response.inConsumed.toNat = s.regs.stride.toNat ∧
      s.regs.H * (s.regs.rowbytes.toNat + t.response.inConsumed.toNat) = s.regs.imgsize.toNat) ∧
    (exec .emitpad s = .next t → t.response.status = .ok →
      s.regs.rowbytes.toNat + t.response.outBytes.length = s.regs.stride.toNat ∧
      s.regs.H * (s.regs.rowbytes.toNat + t.response.outBytes.length) = s.regs.imgsize.toNat)

/-- What the two streams see of a successful transfer (20_memory.md R38, R45; 70_reset_and_hazards.md R111): the
premise is the host's presentation duty, the conclusion what the host's absorption of the response leaves. -/
def Obligations.TransfersMoveTheStreamsNextBytes : Prop :=
  ∀ (s t : State) (st : Streams),
    (st.Offers s.inPort → exec .unm16 s = .next t → t.response.status = .ok →
      ∃ b0 b1 rest, st.input = b0 :: b1 :: rest ∧ t.response.result = 0#16 ++ b1 ++ b0 ∧
        st.absorb t.response = ⟨rest, st.output⟩) ∧
    (st.Offers s.inPort → exec .unm32 s = .next t → t.response.status = .ok →
      ∃ b0 b1 b2 b3 rest, st.input = b0 :: b1 :: b2 :: b3 :: rest ∧
        t.response.result = b3 ++ b2 ++ b1 ++ b0 ∧ st.absorb t.response = ⟨rest, st.output⟩) ∧
    (st.Offers s.inPort → exec .skippad s = .next t → t.response.status = .ok →
      s.regs.pad.toNat ≤ st.input.length ∧
      st.absorb t.response = ⟨st.input.drop s.regs.pad.toNat, st.output⟩) ∧
    (∀ v : Half, exec (.mar16 v) s = .next t → t.response.status = .ok →
      st.absorb t.response = ⟨st.input, st.output ++ [v.extractLsb' 0 8, v.extractLsb' 8 8]⟩) ∧
    (∀ v : Word, exec (.mar32 v) s = .next t → t.response.status = .ok →
      st.absorb t.response = ⟨st.input, st.output ++
        [v.extractLsb' 0 8, v.extractLsb' 8 8, v.extractLsb' 16 8, v.extractLsb' 24 8]⟩) ∧
    (exec .emitpad s = .next t → t.response.status = .ok →
      st.absorb t.response = ⟨st.input, st.output ++ List.replicate s.regs.pad.toNat 0#8⟩)

/-! ### Statuses -/

/-- 60_exceptions.md R90: the codes, and which commands each status is raised by. -/
def Obligations.StatusesHaveTheirCodesAndRaisers : Prop :=
  Status.ok.code = 0#3 ∧ Status.short.code = 1#3 ∧ Status.invalidArg.code = 2#3 ∧
  Status.unsupported.code = 3#3 ∧ Status.overflow.code = 4#3 ∧ Status.illegal.code = 5#3 ∧
  ∀ (s u : State) (t : Transaction) (rest : List HostInput),
    s.inputs = .command t :: rest → step s = .next u →
    u.response.status.code.toNat < 6 ∧
    (u.response.status = .short →
      decode t.command = .ok .unm16 ∨ decode t.command = .ok .unm32 ∨
      (∃ v, decode t.command = .ok (.mar16 v)) ∨ (∃ v, decode t.command = .ok (.mar32 v)) ∨
      decode t.command = .ok .skippad ∨ decode t.command = .ok .emitpad) ∧
    (u.response.status = .invalidArg →
      (∃ w h d, decode t.command = .ok (.geom w h d)) ∨ (∃ sel, decode t.command = .ok (.rdreg sel)) ∨
      (∃ y, decode t.command = .ok (.rowrev y)) ∨ (∃ y, decode t.command = .ok (.rowaddr y)) ∨
      (∃ x y, decode t.command = .ok (.pixaddr x y)) ∨
      decode t.command = .ok .skippad ∨ decode t.command = .ok .emitpad) ∧
    (u.response.status = .unsupported → ∃ w h d, decode t.command = .ok (.geom w h d)) ∧
    (u.response.status = .overflow → ∃ w h d, decode t.command = .ok (.geom w h d)) ∧
    (u.response.status = .illegal ↔ ∀ i, decode t.command ≠ .ok i)

/-- 60_exceptions.md R91: the response of a presented command, legal or not, and the registers it leaves depend on the
registers and on that transaction alone, so on no earlier command's status (nor on the response still driven, the
responses given or what comes after). -/
def Obligations.StatusDoesNotDependOnEarlierStatuses : Prop :=
  ∀ (s s' u : State) (t : Transaction) (rest rest' : List HostInput),
    s.inputs = .command t :: rest → s'.inputs = .command t :: rest' → s.regs = s'.regs →
    step s = .next u → ∃ u', step s' = .next u' ∧ u'.response = u.response ∧ u'.regs = u.regs

/-- 60_exceptions.md R92 (and 20_memory.md R44): a command that is answered with a status other than OK writes no
register and returns zeros beside its status. -/
def Obligations.RaisedStatusHasNoEffect : Prop :=
  ∀ (s u : State) (t : Transaction) (rest : List HostInput),
    s.inputs = .command t :: rest → step s = .next u → u.response.status ≠ .ok →
    u.regs = s.regs ∧ u.response.result = 0 ∧ u.response.inConsumed = 0 ∧
    u.response.outData = 0 ∧ u.response.outCount = 0

/-- 60_exceptions.md R93 (with 20_memory.md R39): exactly when each command raises SHORT. -/
def Obligations.ShortIffTheTransferIsNotPossible : Prop :=
  ∀ (i : Instr) (s t : State), exec i s = .next t →
    let noRead : Nat → Prop := fun n => s.inPort.inOk = false ∨ min s.inPort.inAvail.toNat 4 < n
    let noWrite : Nat → Prop := fun n => s.outPort.outOk = false ∨ min s.outPort.outSpace.toNat 4 < n
    (t.response.status = .short ↔
      (i = .unm16 ∧ noRead 2) ∨ (i = .unm32 ∧ noRead 4) ∨
      ((∃ v, i = .mar16 v) ∧ noWrite 2) ∨ ((∃ v, i = .mar32 v) ∧ noWrite 4) ∨
      (i = .skippad ∧ s.regs.gstat = 1#1 ∧ 0 < s.regs.pad.toNat ∧ noRead s.regs.pad.toNat) ∨
      (i = .emitpad ∧ s.regs.gstat = 1#1 ∧ 0 < s.regs.pad.toNat ∧ noWrite s.regs.pad.toNat))

/-- 60_exceptions.md R97: with no geometry loaded these six raise INVALID_ARG, and the status of the others does not
depend on the registers at all. -/
def Obligations.AbsentGeometryRaisesInvalidArg : Prop :=
  (∀ s : State, s.regs.gstat = 0#1 →
    let refused := Host.Outcome.next (s.respond ⟨.invalidArg, 0, 0, 0, 0⟩)
    (∀ sel : BitVec 4, 1 ≤ sel.toNat → sel.toNat ≤ 11 → exec (.rdreg sel) s = refused) ∧
    (∀ y, exec (.rowrev y) s = refused) ∧ (∀ y, exec (.rowaddr y) s = refused) ∧
    (∀ x y, exec (.pixaddr x y) s = refused) ∧ exec .skippad s = refused ∧ exec .emitpad s = refused) ∧
  (∀ (i : Instr) (s t : State) (r : Regs),
    (i = .rdreg 0 ∨ i = .nop ∨ i = .gclr ∨ (∃ w h d, i = .geom w h d) ∨ i = .unm16 ∨ i = .unm32 ∨
      (∃ v, i = .mar16 v) ∨ (∃ v, i = .mar32 v)) →
    exec i s = .next t →
    ∃ t', exec i { s with regs := r } = .next t' ∧ t'.response.status = t.response.status)

/-- 60_exceptions.md R100: which status wins where several apply. -/
def Obligations.StatusesAreReportedInTheirOrder : Prop :=
  (∀ c : Command, (∀ i, decode c ≠ .ok i) → AnsweredIllegal c.cmd) ∧
  ∀ s : State,
    (∀ (w h : Word) (d : Half), sint32 w ≤ 0 ∨ sint32 h ≤ 0 →
      exec (.geom w h d) s = .next (s.respond ⟨.invalidArg, 0, 0, 0, 0⟩)) ∧
    (∀ (w h : Word) (d : Half), 0 < sint32 w → 0 < sint32 h →
      ¬ (d.toNat = 8 ∨ d.toNat = 24 ∨ d.toNat = 32) →
      exec (.geom w h d) s = .next (s.respond ⟨.unsupported, 0, 0, 0, 0⟩)) ∧
    (s.regs.gstat = 0#1 →
      exec .skippad s = .next (s.respond ⟨.invalidArg, 0, 0, 0, 0⟩) ∧
      exec .emitpad s = .next (s.respond ⟨.invalidArg, 0, 0, 0, 0⟩)) ∧
    (∀ x y : Word,
      (s.regs.gstat = 0#1 ∨ sint32 s.regs.height ≤ y.toNat →
        exec (.rowrev y) s = .next (s.respond ⟨.invalidArg, 0, 0, 0, 0⟩) ∧
        exec (.rowaddr y) s = .next (s.respond ⟨.invalidArg, 0, 0, 0, 0⟩)) ∧
      (s.regs.gstat = 0#1 ∨ sint32 s.regs.width ≤ x.toNat ∨ sint32 s.regs.height ≤ y.toNat →
        exec (.pixaddr x y) s = .next (s.respond ⟨.invalidArg, 0, 0, 0, 0⟩)))

/-! ### Whole-machine rules -/

/-- 10_state.md R14 "written only by GEOM and GCLR", with the frame of every other command: nothing but the response
port and the list of responses changes. -/
def Obligations.OnlyGeomAndGclrWriteRegisters : Prop :=
  ∀ (i : Instr) (s t : State), exec i s = .next t →
    t = { s with regs := t.regs, response := t.response, history := t.response :: s.history } ∧
    ((∀ w h d, i ≠ .geom w h d) → i ≠ .gclr → t.regs = s.regs)

/-- 20_memory.md R43: the byte counts of every command, all of them 0 unless the status is OK. -/
def Obligations.CommandsMoveExactlyTheirWidth : Prop :=
  ∀ (i : Instr) (s t : State), exec i s = .next t →
    (t.response.status ≠ .ok → t.response.inConsumed = 0 ∧ t.response.outCount = 0) ∧
    (t.response.status = .ok →
      t.response.inConsumed.toNat =
        (if i = .unm16 then 2 else if i = .unm32 then 4 else if i = .skippad then s.regs.pad.toNat else 0) ∧
      ((∃ v, i = .mar16 v) → t.response.outCount = 2) ∧
      ((∃ v, i = .mar32 v) → t.response.outCount = 4) ∧
      (i = .emitpad → t.response.outCount.toNat = s.regs.pad.toNat) ∧
      ((∀ v, i ≠ .mar16 v) → (∀ v, i ≠ .mar32 v) → i ≠ .emitpad → t.response.outCount = 0))

/-- 10_state.md R22: the ranges of the counts, the lanes at and beyond `out_count`, the result of a command that names
none, and the counts of a command that moves no bytes of that stream. -/
def Obligations.UnsetResponseFieldsAreZero : Prop :=
  ∀ (s u : State) (t : Transaction) (rest : List HostInput),
    s.inputs = .command t :: rest → step s = .next u →
    u.response.inConsumed.toNat ≤ 4 ∧ u.response.outCount.toNat ≤ 4 ∧
    (∀ k : Nat, u.response.outCount.toNat ≤ k → k < 4 → lane u.response.outData k = 0) ∧
    ((decode t.command = .ok .nop ∨ decode t.command = .ok .gclr ∨
      (∃ v, decode t.command = .ok (.mar16 v)) ∨ (∃ v, decode t.command = .ok (.mar32 v)) ∨
      decode t.command = .ok .skippad ∨ decode t.command = .ok .emitpad) → u.response.result = 0) ∧
    (decode t.command ≠ .ok .unm16 → decode t.command ≠ .ok .unm32 → decode t.command ≠ .ok .skippad →
      u.response.inConsumed = 0) ∧
    ((∀ v, decode t.command ≠ .ok (.mar16 v)) → (∀ v, decode t.command ≠ .ok (.mar32 v)) →
      decode t.command ≠ .ok .emitpad → u.response.outCount = 0)

/-- 20_memory.md R35 (and 41_geometry.md R75): only UNM16, UNM32 and SKIPPAD reach IN and only MAR16, MAR32 and EMITPAD
reach OUT; no other command consumes, emits or looks at the port. -/
def Obligations.OnlyStreamCommandsReachTheStreams : Prop :=
  ∀ (i : Instr) (s t : State), exec i s = .next t →
    (i ≠ .unm16 → i ≠ .unm32 → i ≠ .skippad →
      t.response.inConsumed = 0 ∧
      ∀ p : InPort, exec i { s with inPort := p } = .next { t with inPort := p }) ∧
    ((∀ v, i ≠ .mar16 v) → (∀ v, i ≠ .mar32 v) → i ≠ .emitpad →
      t.response.outCount = 0 ∧ t.response.outData = 0 ∧
      ∀ q : OutPort, exec i { s with outPort := q } = .next { t with outPort := q })

/-- 10_state.md R20 (93_implementation_defined.md item 9): no command reads a lane at or beyond `min(in_avail, 4)`. -/
def Obligations.LanesBeyondAvailAreNotRead : Prop :=
  ∀ (i : Instr) (s t : State) (d : Word),
    (∀ k : Nat, k < min s.inPort.inAvail.toNat 4 → lane d k = lane s.inPort.inData k) →
    exec i s = .next t →
    exec i { s with inPort := { s.inPort with inData := d } } =
      .next { t with inPort := { s.inPort with inData := d } }

/-- The invariant of the register file holds after reset (R18, R105). -/
def Obligations.ResetRegistersAreConsistent : Prop :=
  State.reset.regs.Consistent ∧ ∀ (s : State) (rest : List HostInput), (s.assertReset rest).regs.Consistent

/-- Every step, on whatever the host presents, keeps the invariant of the register file: R14 to R17 while VALID is 1,
all 0 while it is 0 (R18). -/
def Obligations.EveryStepKeepsRegistersConsistent : Prop :=
  ∀ s t : State, s.regs.Consistent → step s = .next t → t.regs.Consistent
end

