-- ==== Sys2Proof/Laws/Decode.lean ====
section
/-!
SUPPORT. What the decoder answers, said once: the fields of an assembled word, and the two shared decoders.
-/
namespace Sys2Proof

@[simp] theorem opOf_cmdWord (sel op : BitVec 4) : opOf (cmdWord sel op) = op := by
  revert sel op; decide

@[simp] theorem selOf_cmdWord (sel op : BitVec 4) : selOf (cmdWord sel op) = sel := by
  revert sel op; decide

/-- A command word is its two fields. -/
theorem cmdWord_selOf_opOf (cmd : BitVec 8) : cmdWord (selOf cmd) (opOf cmd) = cmd := by
  revert cmd; decide

/-- The operation code as a number. -/
theorem opOf_toNat (cmd : BitVec 8) : (opOf cmd).toNat = cmd.toNat % 16 := by
  simp [opOf, BitVec.extractLsb'_toNat]

/-- The selector as a number. -/
theorem selOf_toNat (cmd : BitVec 8) : (selOf cmd).toNat = cmd.toNat / 16 := by
  have := cmd.isLt
  simp only [selOf, BitVec.extractLsb'_toNat, Nat.shiftRight_eq_div_pow]
  omega

/-- `decodePlain` answers its instruction exactly when the selector is 0. -/
theorem decodePlain_eq_ok_iff {op sel : BitVec 4} {i j : Instr} :
    decodePlain op sel i = .ok j ↔ sel = 0#4 ∧ i = j := by
  unfold decodePlain; split <;> simp_all

/-- `decodeRdreg` answers RDREG exactly for the implemented slots. -/
theorem decodeRdreg_eq_ok_iff {sel : BitVec 4} {j : Instr} :
    decodeRdreg sel = .ok j ↔ sel.toNat < 12 ∧ .rdreg sel = j := by
  unfold decodeRdreg; split <;> simp_all

end Sys2Proof
end

