-- ==== Sys2Proof/Laws/State.lean ====
section
/-!
SUPPORT. One lemma per field per update of the state, so that no proof unfolds a record update, and the observations
of R115 after an update.
-/
namespace Sys2Proof.Machine

/-! ### `State.respond` -/

@[simp] theorem State.respond_regs (s : State) (r : Response) : (s.respond r).regs = s.regs := rfl
@[simp] theorem State.respond_inPort (s : State) (r : Response) : (s.respond r).inPort = s.inPort := rfl
@[simp] theorem State.respond_outPort (s : State) (r : Response) : (s.respond r).outPort = s.outPort := rfl
@[simp] theorem State.respond_response (s : State) (r : Response) : (s.respond r).response = r := rfl
@[simp] theorem State.respond_inputs (s : State) (r : Response) : (s.respond r).inputs = s.inputs := rfl
@[simp] theorem State.respond_history (s : State) (r : Response) : (s.respond r).history = r :: s.history := rfl

/-! ### `State.withRegs` -/

@[simp] theorem State.withRegs_regs (s : State) (r : Regs) : (s.withRegs r).regs = r := rfl
@[simp] theorem State.withRegs_inPort (s : State) (r : Regs) : (s.withRegs r).inPort = s.inPort := rfl
@[simp] theorem State.withRegs_outPort (s : State) (r : Regs) : (s.withRegs r).outPort = s.outPort := rfl
@[simp] theorem State.withRegs_response (s : State) (r : Regs) : (s.withRegs r).response = s.response := rfl
@[simp] theorem State.withRegs_inputs (s : State) (r : Regs) : (s.withRegs r).inputs = s.inputs := rfl
@[simp] theorem State.withRegs_history (s : State) (r : Regs) : (s.withRegs r).history = s.history := rfl

/-! ### `State.present` -/

@[simp] theorem State.present_regs (s : State) (t : Transaction) (rest : List HostInput) : (s.present t rest).regs = s.regs := rfl
@[simp] theorem State.present_inPort (s : State) (t : Transaction) (rest : List HostInput) : (s.present t rest).inPort = t.inPort := rfl
@[simp] theorem State.present_outPort (s : State) (t : Transaction) (rest : List HostInput) : (s.present t rest).outPort = t.outPort := rfl
@[simp] theorem State.present_response (s : State) (t : Transaction) (rest : List HostInput) : (s.present t rest).response = s.response := rfl
@[simp] theorem State.present_inputs (s : State) (t : Transaction) (rest : List HostInput) : (s.present t rest).inputs = rest := rfl
@[simp] theorem State.present_history (s : State) (t : Transaction) (rest : List HostInput) : (s.present t rest).history = s.history := rfl

/-! ### `State.assertReset` -/

@[simp] theorem State.assertReset_regs (s : State) (rest : List HostInput) : (s.assertReset rest).regs = Regs.reset := rfl
@[simp] theorem State.assertReset_inPort (s : State) (rest : List HostInput) : (s.assertReset rest).inPort = s.inPort := rfl
@[simp] theorem State.assertReset_outPort (s : State) (rest : List HostInput) : (s.assertReset rest).outPort = s.outPort := rfl
@[simp] theorem State.assertReset_response (s : State) (rest : List HostInput) : (s.assertReset rest).response = Response.idle := rfl
@[simp] theorem State.assertReset_inputs (s : State) (rest : List HostInput) : (s.assertReset rest).inputs = rest := rfl
@[simp] theorem State.assertReset_history (s : State) (rest : List HostInput) : (s.assertReset rest).history = s.history := rfl

/-! ### The observations of R115 -/

@[simp] theorem State.respond_bytesConsumed (s : State) (r : Response) :
    (s.respond r).bytesConsumed = s.bytesConsumed + r.inConsumed.toNat := by
  simp [State.bytesConsumed, Nat.add_comm]

@[simp] theorem State.respond_bytesEmitted (s : State) (r : Response) :
    (s.respond r).bytesEmitted = s.bytesEmitted ++ r.outBytes := by
  simp [State.bytesEmitted]

@[simp] theorem State.withRegs_bytesConsumed (s : State) (r : Regs) :
    (s.withRegs r).bytesConsumed = s.bytesConsumed := rfl

@[simp] theorem State.withRegs_bytesEmitted (s : State) (r : Regs) :
    (s.withRegs r).bytesEmitted = s.bytesEmitted := rfl

@[simp] theorem State.present_bytesConsumed (s : State) (t : Transaction) (rest : List HostInput) :
    (s.present t rest).bytesConsumed = s.bytesConsumed := rfl

@[simp] theorem State.present_bytesEmitted (s : State) (t : Transaction) (rest : List HostInput) :
    (s.present t rest).bytesEmitted = s.bytesEmitted := rfl

@[simp] theorem State.assertReset_bytesConsumed (s : State) (rest : List HostInput) :
    (s.assertReset rest).bytesConsumed = s.bytesConsumed := rfl

@[simp] theorem State.assertReset_bytesEmitted (s : State) (rest : List HostInput) :
    (s.assertReset rest).bytesEmitted = s.bytesEmitted := rfl

/-! ### The responses -/

@[simp] theorem Response.completed_status (v : Word) : (Response.completed v).status = .ok := rfl
@[simp] theorem Response.completed_result (v : Word) : (Response.completed v).result = v := rfl
@[simp] theorem Response.completed_inConsumed (v : Word) : (Response.completed v).inConsumed = 0 := rfl
@[simp] theorem Response.completed_outData (v : Word) : (Response.completed v).outData = 0 := rfl
@[simp] theorem Response.completed_outCount (v : Word) : (Response.completed v).outCount = 0 := rfl

@[simp] theorem Response.consumed_status (n : Nat) (v : Word) : (Response.consumed n v).status = .ok := rfl
@[simp] theorem Response.consumed_result (n : Nat) (v : Word) : (Response.consumed n v).result = v := rfl
@[simp] theorem Response.consumed_inConsumed (n : Nat) (v : Word) : (Response.consumed n v).inConsumed = count3 n := rfl
@[simp] theorem Response.consumed_outData (n : Nat) (v : Word) : (Response.consumed n v).outData = 0 := rfl
@[simp] theorem Response.consumed_outCount (n : Nat) (v : Word) : (Response.consumed n v).outCount = 0 := rfl

@[simp] theorem Response.emitted_status (n : Nat) (v : Word) : (Response.emitted n v).status = .ok := rfl
@[simp] theorem Response.emitted_result (n : Nat) (v : Word) : (Response.emitted n v).result = 0 := rfl
@[simp] theorem Response.emitted_inConsumed (n : Nat) (v : Word) : (Response.emitted n v).inConsumed = 0 := rfl
@[simp] theorem Response.emitted_outData (n : Nat) (v : Word) : (Response.emitted n v).outData = lowBytes n v := rfl
@[simp] theorem Response.emitted_outCount (n : Nat) (v : Word) : (Response.emitted n v).outCount = count3 n := rfl

@[simp] theorem Response.raised_status (e : Status) : (Response.raised e).status = e := rfl
@[simp] theorem Response.raised_result (e : Status) : (Response.raised e).result = 0 := rfl
@[simp] theorem Response.raised_inConsumed (e : Status) : (Response.raised e).inConsumed = 0 := rfl
@[simp] theorem Response.raised_outData (e : Status) : (Response.raised e).outData = 0 := rfl
@[simp] theorem Response.raised_outCount (e : Status) : (Response.raised e).outCount = 0 := rfl

end Sys2Proof.Machine
end

