-- ==== Sys2Proof/Laws/Ops.lean ====
section
/-!
SUPPORT. Each shared operation, said once: what it answers and when. A proof cites these and does not unfold the
operation.
-/
namespace Sys2Proof.Machine

/-! ### Answering -/

theorem answer_eq_next_iff {r : Response} {s t : State} : answer r s = .next t ↔ t = s.respond r := by
  unfold answer; constructor <;> simp_all

theorem raise_eq (e : Status) (s : State) : raise e s = .next (s.respond (Response.raised e)) := rfl

theorem complete_eq (v : Word) (s : State) : complete v s = .next (s.respond (Response.completed v)) := rfl

/-! ### Ports -/

theorem saturated_le (c : BitVec 3) : saturated c ≤ 4 := Nat.min_le_right _ _

theorem InPort.canRead_iff {p : InPort} {n : Nat} :
    p.canRead n = true ↔ p.inOk = true ∧ n ≤ min p.inAvail.toNat 4 := by
  simp [InPort.canRead, InPort.avail, saturated]

theorem OutPort.canWrite_iff {p : OutPort} {n : Nat} :
    p.canWrite n = true ↔ p.outOk = true ∧ n ≤ min p.outSpace.toNat 4 := by
  simp [OutPort.canWrite, OutPort.space, saturated]

/-! ### Transfers -/

/-- What `unmarshal` can do: consume its bytes and give their value, or raise SHORT. -/
theorem unmarshal_eq (n : Nat) (s : State) :
    unmarshal n s = .next (s.respond
      (if s.inPort.canRead n then Response.consumed n (memRead n s) else Response.raised .short)) := by
  unfold unmarshal raise answer; split <;> rfl

/-- What `marshal` can do: emit its bytes, or raise SHORT. -/
theorem marshal_eq (n : Nat) (v : Word) (s : State) :
    marshal n v s = .next (s.respond
      (if s.outPort.canWrite n then Response.emitted n v else Response.raised .short)) := by
  unfold marshal raise answer; split <;> rfl

/-- What `discard` can do: consume its bytes, or raise SHORT when there are some and they cannot be read. -/
theorem discard_eq (n : Nat) (s : State) :
    discard n s = .next (s.respond
      (if n ≠ 0 ∧ s.inPort.canRead n = false then Response.raised .short else Response.consumed n 0#32)) := by
  unfold discard raise answer; split <;> rfl

/-- What `emitZeros` can do: emit its zeros, or raise SHORT when there are some and they cannot be written. -/
theorem emitZeros_eq (n : Nat) (s : State) :
    emitZeros n s = .next (s.respond
      (if n ≠ 0 ∧ s.outPort.canWrite n = false then Response.raised .short else Response.emitted n 0#32)) := by
  unfold emitZeros raise answer; split <;> rfl

/-! ### Lanes -/

/-- The low `n` bytes of a word as a number. -/
theorem lowBytes_toNat (n : Nat) (v : Word) : (lowBytes n v).toNat = v.toNat % 2 ^ (8 * n) := by
  have hlt : v.toNat % 2 ^ (8 * n) < 2 ^ 32 :=
    Nat.lt_of_le_of_lt (Nat.mod_le _ _) v.isLt
  simpa [lowBytes, BitVec.extractLsb'_toNat] using hlt

/-- A lane below `n` of the low `n` bytes is the word's lane, and the lanes above are 0. -/
theorem lane_lowBytes (n k : Nat) (v : Word) (h : k < 4) :
    lane (lowBytes n v) k = if k < n then lane v k else 0#8 := by
  ext i hi
  simp only [lane, lowBytes, BitVec.getElem_extractLsb', BitVec.getLsbD_setWidth, BitVec.getLsbD_extractLsb']
  by_cases hk : k < n
  · simp [hk, show 8 * k + i < 32 by omega, show 8 * k + i < 8 * n by omega, BitVec.getElem_extractLsb']
  · simp [hk, show ¬ 8 * k + i < 8 * n by omega]

/-- A count of at most 7 survives on its 3-bit field. -/
theorem count3_toNat (n : Nat) (h : n < 8) : (count3 n).toNat = n := by
  simp [count3, Nat.mod_eq_of_lt h]

end Sys2Proof.Machine
end

