-- ==== Sys2Proof/Laws/Geometry.lean ====
section
/-!
SUPPORT. GeomCalc said once: which of its four answers it gives (41_geometry.md R77), its values in R77's own terms,
and the size facts of its last line.
-/
namespace Sys2Proof.Machine

theorem strideOf_eq (n : Nat) : strideOf n = (n + 3) / 4 * 4 := rfl

theorem le_strideOf (n : Nat) : n ≤ strideOf n := by
  rw [strideOf_eq]; omega

theorem strideOf_le (n : Nat) : strideOf n ≤ n + 3 := by
  rw [strideOf_eq]; omega

theorem palsizeOf_eq (d : Nat) : palsizeOf d = if d = 8 then 1024 else 0 := rfl

/-- The eight values of `geomValues` that are no operand, as R77 writes them. -/
theorem geomValues_eq (w h d : Nat) :
    (geomValues w h d).bypp = d / 8 ∧ (geomValues w h d).rowbytes = w * (d / 8) ∧
    (geomValues w h d).stride = strideOf (w * (d / 8)) ∧
    (geomValues w h d).pad = strideOf (w * (d / 8)) - w * (d / 8) ∧
    (geomValues w h d).palsize = palsizeOf d ∧ (geomValues w h d).dataofs = 54 + palsizeOf d ∧
    (geomValues w h d).imgsize = strideOf (w * (d / 8)) * h ∧
    (geomValues w h d).filesize = 54 + palsizeOf d + strideOf (w * (d / 8)) * h :=
  ⟨rfl, rfl, rfl, rfl, rfl, rfl, rfl, rfl⟩

/-- GeomCalc said once: which of its four answers it gives. The four cases exclude each other. -/
theorem geomCalc_cases (w h : Int) (d : Nat) :
    ((w ≤ 0 ∨ h ≤ 0) ∧ geomCalc w h d = .error .invalidArg) ∨
    (0 < w ∧ 0 < h ∧ ¬ (d = 8 ∨ d = 24 ∨ d = 32) ∧ geomCalc w h d = .error .unsupported) ∨
    (0 < w ∧ 0 < h ∧ (d = 8 ∨ d = 24 ∨ d = 32) ∧
      0xFFFFFFFF < (geomValues w.toNat h.toNat d).filesize ∧ geomCalc w h d = .error .overflow) ∨
    (0 < w ∧ 0 < h ∧ (d = 8 ∨ d = 24 ∨ d = 32) ∧
      (geomValues w.toNat h.toNat d).filesize ≤ 0xFFFFFFFF ∧
      geomCalc w h d = .ok (geomValues w.toNat h.toNat d)) := by
  have hd : d ∈ Config.supportedBpp ↔ d = 8 ∨ d = 24 ∨ d = 32 := by simp
  unfold geomCalc
  by_cases h1 : w ≤ 0 ∨ h ≤ 0
  · exact .inl ⟨h1, if_pos h1⟩
  rw [if_neg h1]
  have hw : 0 < w := by omega
  have hh : 0 < h := by omega
  by_cases h2 : d = 8 ∨ d = 24 ∨ d = 32
  · rw [if_neg (not_not.2 (hd.2 h2))]
    by_cases h3 : Config.maxU32 < (geomValues w.toNat h.toNat d).filesize
    · exact .inr (.inr (.inl ⟨hw, hh, h2, h3, if_pos h3⟩))
    · exact .inr (.inr (.inr ⟨hw, hh, h2, Nat.not_lt.1 h3, if_neg h3⟩))
  · exact .inr (.inl ⟨hw, hh, h2, if_pos (mt hd.1 h2)⟩)

/-- Every value GeomCalc computes is at most the file's size, or fits the narrow field of its register: so where the
file fits, all of them do (the last line of R77). -/
theorem geomValues_fit {w h d : Nat} (hw : 0 < w) (hh : 0 < h) (hd : d = 8 ∨ d = 24 ∨ d = 32) :
    (geomValues w h d).rowbytes ≤ (geomValues w h d).stride ∧
    (geomValues w h d).stride ≤ (geomValues w h d).imgsize ∧
    (geomValues w h d).imgsize < (geomValues w h d).filesize ∧
    (geomValues w h d).dataofs < 2 ^ 32 ∧ (geomValues w h d).pad < 4 ∧
    (geomValues w h d).bypp < 8 ∧ (geomValues w h d).palsize < 2048 ∧ 0 < (geomValues w h d).rowbytes := by
  have h1 := le_strideOf (w * (d / 8))
  have h2 := strideOf_le (w * (d / 8))
  have h3 : strideOf (w * (d / 8)) ≤ strideOf (w * (d / 8)) * h := Nat.le_mul_of_pos_right _ hh
  have h4 : 0 < w * (d / 8) := Nat.mul_pos hw (by omega)
  have h5 : palsizeOf d ≤ 1024 := by rw [palsizeOf_eq]; split <;> omega
  obtain ⟨e1, e2, e3, e4, e5, e6, e7, e8⟩ := geomValues_eq w h d
  rw [e1, e2, e3, e4, e5, e6, e7, e8]
  omega

end Sys2Proof.Machine
end

