-- ==== Sys2Proof/Laws/Layout.lean ====
section
/-!
SUPPORT. The bytes of a palette entry (20_memory.md R50), said once.
-/
namespace Sys2Proof.Machine

/-- A palette entry has exactly four bytes. -/
@[simp] theorem paletteChannelOf_isSome (c : Nat) : (paletteChannelOf c).isSome = decide (c < 4) := by
  match c with
  | 0 | 1 | 2 | 3 => rfl
  | n + 4 => simp [paletteChannelOf]

/-- Where the loaded geometry has no palette, no file offset is a palette byte. -/
theorem Regs.locatePalette_of_palsize_zero {r : Regs} (h : r.palsize.toNat = 0) (o : Nat) :
    r.locatePalette o = none := if_neg (by omega)

end Sys2Proof.Machine
end

