-- ==== Sys2Proof/Laws/PerInstr.lean ====
section
/-!
SUPPORT. The family EncodesLegal: the command of every well-formed instruction is legal (30_encoding.md R62), one lemma
per constructor.
-/
namespace Sys2Proof.Laws.EncodesLegal

/-- The command word of a well-formed instruction is not one R62 calls ILLEGAL. -/
def Statement (i : Instr) : Prop := i.wellFormed = true → illegalCmd (encode i).cmd = false

theorem nop : Statement .nop := fun _ => by simp only [encode]; decide
theorem unm16 : Statement .unm16 := fun _ => by simp only [encode]; decide
theorem unm32 : Statement .unm32 := fun _ => by simp only [encode]; decide
theorem mar16 (v : Half) : Statement (.mar16 v) := fun _ => by simp only [encode]; decide
theorem mar32 (v : Word) : Statement (.mar32 v) := fun _ => by simp only [encode]; decide
theorem geom (w h : Word) (bpp : Half) : Statement (.geom w h bpp) := fun _ => by simp only [encode]; decide
theorem gclr : Statement .gclr := fun _ => by simp only [encode]; decide
theorem rdreg (sel : BitVec 4) : Statement (.rdreg sel) := fun h => by
  have hsel : sel.toNat < 12 := by simpa [Instr.wellFormed] using h
  simp [encode, illegalCmd, hsel]
theorem rowrev (y : Word) : Statement (.rowrev y) := fun _ => by simp only [encode]; decide
theorem rowaddr (y : Word) : Statement (.rowaddr y) := fun _ => by simp only [encode]; decide
theorem pixaddr (x y : Word) : Statement (.pixaddr x y) := fun _ => by simp only [encode]; decide
theorem skippad : Statement .skippad := fun _ => by simp only [encode]; decide
theorem emitpad : Statement .emitpad := fun _ => by simp only [encode]; decide

end Sys2Proof.Laws.EncodesLegal
end

