-- ==== Sys2Proof/Laws/Rows.lean ====
section
/-!
SUPPORT. The bounds checks of 42_rows.md R82 said once, and the reversed row as an integer.
-/
namespace Sys2Proof.Machine

theorem Regs.valid_iff {r : Regs} : r.valid = true ↔ r.gstat = 1#1 := by simp [Regs.valid]

theorem Regs.valid_eq_false_iff {r : Regs} : r.valid = false ↔ r.gstat = 0#1 := by
  have h := r.gstat.isLt
  simp only [Regs.valid, decide_eq_false_iff_not]
  constructor <;> intro hg
  · bv_omega
  · rw [hg]; decide

theorem Regs.rowOk_iff {r : Regs} {y : Word} :
    r.rowOk y = true ↔ r.gstat = 1#1 ∧ (y.toNat : Int) < sint32 r.height := by
  simp only [Regs.rowOk, Regs.rowInRange, Regs.valid, Bool.and_eq_true, decide_eq_true_eq]
  exact Iff.rfl

theorem Regs.pixOk_iff {r : Regs} {x y : Word} :
    r.pixOk x y = true ↔
      r.gstat = 1#1 ∧ (x.toNat : Int) < sint32 r.width ∧ (y.toNat : Int) < sint32 r.height := by
  simp only [Regs.pixOk, Regs.rowInRange, Regs.columnInRange, Regs.valid, Bool.and_eq_true, decide_eq_true_eq,
    and_assoc]
  exact Iff.rfl

/-- Below the height the reversed row is the integer `Height - 1 - y`. -/
theorem Regs.reversedRow_eq {r : Regs} {y : Word} (h : (y.toNat : Int) < sint32 r.height) :
    (r.reversedRow y : Int) = sint32 r.height - 1 - y.toNat := by
  unfold Regs.reversedRow unsigned; omega

theorem sint32_lt (v : Word) : sint32 v < 2 ^ 31 := by
  have := BitVec.toInt_lt (x := v)
  simpa [sint32] using this

theorem word32_toNat {n : Nat} (h : n < 2 ^ 32) : (word32 n).toNat = n := by
  simpa [word32] using h

/-- The reversed row always fits the result bus. -/
theorem Regs.reversedRow_lt (r : Regs) (y : Word) : r.reversedRow y < 2 ^ 32 := by
  have := sint32_lt r.height
  unfold Regs.reversedRow unsigned; omega

end Sys2Proof.Machine
end

