-- ==== Sys2Proof/Tests/Slice0.lean ====
section
/-!
SUPPORT. Tests with expected values from 95_test_vectors.md (the vector is named at each test), the well-formedness
smoke, and the words of 30_encoding.md R58 written out.
-/
namespace Sys2Proof.Tests
open Sys2Proof Sys2Proof.Machine

/-! ### Builders -/

/-- The registers of 2×2×24 (V37, V60 to V71). -/
def regs2x2x24 : Regs := ⟨1, 2, 2, 24, 3, 6, 8, 2, 0, 54, 16, 70⟩

/-- The registers of 5×1×8 (V33). -/
def regs5x1x8 : Regs := ⟨1, 5, 1, 8, 1, 5, 8, 3, 1024, 1078, 8, 1086⟩

/-- The registers of 7×3×8 (V39). -/
def regs7x3x8 : Regs := ⟨1, 7, 3, 8, 1, 7, 8, 1, 1024, 1078, 24, 1102⟩

/-- The registers of 4×1×32 (V34). -/
def regs4x1x32 : Regs := ⟨1, 4, 1, 32, 4, 16, 16, 0, 0, 54, 16, 70⟩

/-- A state with registers `r`, `n` bytes `d` on the input lanes and room for `m` bytes. -/
def mk (r : Regs) (n : BitVec 3 := 4) (d : Word := 0) (m : BitVec 3 := 4) : State :=
  { State.reset with regs := r, inPort := ⟨true, n, d⟩, outPort := ⟨true, m⟩ }

/-- A transaction on usable ports. -/
def tx (cmd : BitVec 8) (a : Word := 0) (b : Word := 0) (c : Half := 0) : Transaction :=
  ⟨⟨cmd, a, b, c⟩, InPort.ready, OutPort.ready⟩

/-- The state with registers `r` to which the host presents one command. -/
def given (r : Regs) (t : Transaction) : State := { State.reset with regs := r, inputs := [.command t] }

/-- The response of an answered step. -/
def responseOf : Host.Outcome State Fault Refusal → Option Response
  | .next s => some s.response
  | _ => none

/-- The registers an answered step leaves. -/
def regsOf : Host.Outcome State Fault Refusal → Option Regs
  | .next s => some s.regs
  | _ => none

/-! ### Well-formedness smoke -/

/-- 30_encoding.md R62: RDREG of a reserved slot is ill formed, and slot 11 is not. -/
theorem test_wellFormed_refuses_reserved_slot :
    (Instr.rdreg 12).wellFormed = false ∧ (Instr.rdreg 15).wellFormed = false ∧
    (Instr.rdreg 11).wellFormed = true := by decide

/-! ### Decoding (R58, words written out) -/

theorem test_decode_control : decodeTableWord 8 0b00000000 = some .nop ∧ decodeTableWord 8 0b00000110 = some .gclr := by
  decide

theorem test_decode_codec :
    decodeTableWord 8 0b00000001 = some .unm16 ∧ decodeTableWord 8 0b00000010 = some .unm32 ∧
    decodeTableWord 40 (0b00000011 + 0x12344D42 * 2 ^ 8) = some (.mar16 0x4D42) ∧
    decodeTableWord 40 (0b00000100 + 0x12345678 * 2 ^ 8) = some (.mar32 0x12345678) ∧
    decodeTableWord 8 0b00001011 = some .skippad ∧ decodeTableWord 8 0b00001100 = some .emitpad := by decide

theorem test_decode_geometry :
    decodeTableWord 88 (0b00000101 + 5 * 2 ^ 8 + 1 * 2 ^ 40 + 8 * 2 ^ 72) = some (.geom 5 1 8) ∧
    decodeTableWord 8 0b00000111 = some (.rdreg 0) ∧ decodeTableWord 8 0b10110111 = some (.rdreg 11) := by decide

theorem test_decode_rows :
    decodeTableWord 40 (0b00001000 + 3 * 2 ^ 8) = some (.rowrev 3) ∧
    decodeTableWord 40 (0b00001001 + 3 * 2 ^ 8) = some (.rowaddr 3) ∧
    decodeTableWord 72 (0b00001010 + 6 * 2 ^ 8 + 2 * 2 ^ 40) = some (.pixaddr 6 2) := by decide

/-- 95_test_vectors.md section 2.6. -/
theorem test_decode_refuses_reserved :
    ∀ n ∈ [0x0D, 0x0E, 0x0F, 0xFF, 0x3E, 0x9D, 0x10, 0x15, 0x1A, 0xF0, 0xC7, 0xD7, 0xE7, 0xF7],
      decodeTableWord 8 n = none := by decide

/-- V57: `cmd = 0x10` is answered ILLEGAL. -/
theorem test_illegal_is_answered :
    responseOf (step (given Regs.reset (tx 0x10))) = some ⟨.illegal, 0, 0, 0, 0⟩ := by decide

/-- A table word is the very next command, from reset too. -/
theorem test_withFetchWord_runs :
    responseOf (step (State.reset.withFetchWord 8 0x07)) = some ⟨.ok, 0, 0, 0, 0⟩ ∧
    responseOf (step (State.reset.withFetchWord 8 0x02)) = some ⟨.ok, 0, 4, 0, 0⟩ := by decide

/-! ### Codec -/

/-- V1. -/
theorem test_unm16 : responseOf (exec .unm16 (mk Regs.reset 4 0x00464D42)) = some ⟨.ok, 0x4D42, 2, 0, 0⟩ := by decide
/-- V3. -/
theorem test_unm16_short : responseOf (exec .unm16 (mk Regs.reset 1 0x42)) = some ⟨.short, 0, 0, 0, 0⟩ := by decide
/-- V7 (`in_avail = 7` means four). -/
theorem test_unm32 : responseOf (exec .unm32 (mk Regs.reset 7 0xFFFFFFFF)) = some ⟨.ok, 0xFFFFFFFF, 4, 0, 0⟩ := by
  decide
/-- V8. -/
theorem test_unm32_short : responseOf (exec .unm32 (mk Regs.reset 3 0x030201)) = some ⟨.short, 0, 0, 0, 0⟩ := by decide
/-- V10: `opA[31:16]` is ignored. -/
theorem test_mar16 :
    (responseOf (step (given Regs.reset (tx 0x03 0x12344D42)))).map Response.outBytes = some [0x42, 0x4D] := by decide
/-- V11. -/
theorem test_mar16_short : responseOf (exec (.mar16 0x18) (mk Regs.reset 4 0 1)) = some ⟨.short, 0, 0, 0, 0⟩ := by
  decide
/-- V14. -/
theorem test_mar32 :
    (responseOf (exec (.mar32 0x12345678) (mk Regs.reset))).map Response.outBytes = some [0x78, 0x56, 0x34, 0x12] := by
  decide
/-- V16. -/
theorem test_mar32_short : responseOf (exec (.mar32 1) (mk Regs.reset 4 0 3)) = some ⟨.short, 0, 0, 0, 0⟩ := by decide
/-- V27. -/
theorem test_skippad : responseOf (exec .skippad (mk regs5x1x8 3 0xCCBBAA)) = some ⟨.ok, 0, 3, 0, 0⟩ := by decide
/-- V25: no port is checked when the pad is 0. -/
theorem test_skippad_no_pad :
    responseOf (exec .skippad { mk regs4x1x32 with inPort := ⟨false, 0, 0⟩ }) = some ⟨.ok, 0, 0, 0, 0⟩ := by decide
/-- V29. -/
theorem test_emitpad : (responseOf (exec .emitpad (mk regs5x1x8 4 0 7))).map Response.outBytes = some [0, 0, 0] := by
  decide
/-- V24. -/
theorem test_emitpad_short : responseOf (exec .emitpad (mk regs2x2x24 4 0 1)) = some ⟨.short, 0, 0, 0, 0⟩ := by decide

/-! ### Geometry and control -/

/-- V56. -/
theorem test_nop : responseOf (exec .nop (mk regs2x2x24)) = some ⟨.ok, 0, 0, 0, 0⟩ := by decide
/-- V40: the largest width of depth 24 whose file fits. -/
theorem test_geom_largest :
    regsOf (exec (.geom 1431655746 1 24) (mk Regs.reset)) =
      some ⟨1, 1431655746, 1, 24, 3, 4294967238, 4294967240, 2, 0, 54, 4294967240, 4294967294⟩ := by decide
/-- V41, V49, V54 and V51: each refusal, with the geometry loaded before kept. -/
theorem test_geom_refusals :
    responseOf (exec (.geom 1431655747 1 24) (mk regs2x2x24)) = some ⟨.overflow, 0, 0, 0, 0⟩ ∧
    responseOf (exec (.geom 0x80000000 1 24) (mk regs2x2x24)) = some ⟨.invalidArg, 0, 0, 0, 0⟩ ∧
    responseOf (exec (.geom 0 2 16) (mk regs2x2x24)) = some ⟨.invalidArg, 0, 0, 0, 0⟩ ∧
    responseOf (exec (.geom 2 2 16) (mk regs2x2x24)) = some ⟨.unsupported, 0, 0, 0, 0⟩ ∧
    regsOf (exec (.geom 2 2 16) (mk regs2x2x24)) = some regs2x2x24 := by decide
/-- V73. -/
theorem test_gclr : regsOf (exec .gclr (mk regs2x2x24)) = some ⟨0, 0, 0, 0, 0, 0, 0, 0, 0, 0, 0, 0⟩ := by decide
/-- V58 and V59. -/
theorem test_rdreg_reset :
    responseOf (exec (.rdreg 0) (mk Regs.reset)) = some ⟨.ok, 0, 0, 0, 0⟩ ∧
    responseOf (exec (.rdreg 1) (mk Regs.reset)) = some ⟨.invalidArg, 0, 0, 0, 0⟩ := by decide
/-- V60 to V71. -/
theorem test_rdreg_each :
    (List.range 12).map (fun n => (responseOf (exec (.rdreg (BitVec.ofNat 4 n)) (mk regs2x2x24))).map Response.result) =
      [1, 2, 2, 24, 3, 6, 8, 2, 0, 54, 16, 70].map some := by decide

/-! ### Rows -/

/-- V81 and V84: the coordinate is unsigned. -/
theorem test_rowrev :
    responseOf (exec (.rowrev 0) (mk regs2x2x24)) = some ⟨.ok, 1, 0, 0, 0⟩ ∧
    responseOf (exec (.rowrev 0xFFFFFFFF) (mk regs2x2x24)) = some ⟨.invalidArg, 0, 0, 0, 0⟩ := by decide
/-- V85 and V87. -/
theorem test_rowaddr :
    responseOf (exec (.rowaddr 0) (mk regs2x2x24)) = some ⟨.ok, 8, 0, 0, 0⟩ ∧
    responseOf (exec (.rowaddr 2) (mk regs2x2x24)) = some ⟨.invalidArg, 0, 0, 0, 0⟩ := by decide
/-- V96, V99 and V100. -/
theorem test_pixaddr :
    responseOf (exec (.pixaddr 6 0) (mk regs7x3x8)) = some ⟨.ok, 22, 0, 0, 0⟩ ∧
    responseOf (exec (.pixaddr 3 1) (mk regs7x3x8)) = some ⟨.ok, 11, 0, 0, 0⟩ ∧
    responseOf (exec (.pixaddr 7 0) (mk regs7x3x8)) = some ⟨.invalidArg, 0, 0, 0, 0⟩ := by decide
/-- The inverse-map check after V105, and byte 23, which V96 calls padding. -/
theorem test_locate : regs7x3x8.locate 11 = .pixel 3 1 0 ∧ regs7x3x8.locate 23 = .padding 0 7 := by decide

/-! ### Layout and host -/

/-- S3 and R47: sixteen fields, each where the one before it ends, 54 bytes in all. -/
theorem test_header_layout :
    headerFields.length = 16 ∧
    (headerFields.foldl (fun n f => if f.offset = n then n + fieldBytes f.width else 0) 0) = 54 ∧
    paletteEntryOffset 255 = 1074 := by decide
/-- R47's order of reads. -/
theorem test_headerDecode :
    headerDecode = [.unm16, .unm32, .unm16, .unm16, .unm32, .unm32, .unm32, .unm32, .unm16, .unm16, .unm32, .unm32,
      .unm32, .unm32, .unm32, .unm32] := by decide
/-- P2 lines 5 to 20: the fields of a created 1×2×24 file. -/
theorem test_headerEncode :
    headerEncode (createdField ⟨1, 1, 2, 24, 3, 3, 4, 1, 0, 54, 8, 62⟩) =
      [.mar16 0x4D42, .mar32 62, .mar16 0, .mar16 0, .mar32 54, .mar32 40, .mar32 1, .mar32 2, .mar16 1, .mar16 24,
        .mar32 0, .mar32 8, .mar32 0, .mar32 0, .mar32 0, .mar32 0] := by decide
/-- R50: entry 0 from byte 54, entry 255 up to byte 1077, each Blue, Green, Red, reserved; no palette at depth 24. -/
theorem test_palette :
    [53, 54, 55, 56, 57, 58, 1077, 1078].map regs5x1x8.locatePalette =
      [none, some (0, .blue), some (0, .green), some (0, .red), some (0, .reserved), some (1, .blue),
        some (255, .reserved), none] ∧
    regs2x2x24.locatePalette 54 = none := by decide
/-- P3 line 5 and the host's abort after it (R112): nothing is consumed and the second action is not taken. -/
theorem test_host_aborts_on_short :
    (match hostRun [.command ⟨0x0B, 0, 0, 0⟩, .putPixels [1]] (mk regs5x1x8) ⟨[0xAA, 0xBB], []⟩ with
      | .next r => decide (r.ended = .aborted) && decide (r.state.response.status = .short) &&
          decide (r.streams = ⟨[0xAA, 0xBB], []⟩)
      | _ => false) = true := by decide
/-- R112: a pixel read that finds too few bytes aborts too, and what follows it is not done. -/
theorem test_host_aborts_on_short_pixels :
    (match hostRun [.takePixels 3, .putPixels [1]] (mk regs5x1x8) ⟨[0xAA, 0xBB], []⟩ with
      | .next r => decide (r.ended = .aborted) && decide (r.streams.output = [])
      | _ => false) = true := by decide
/-- P1 line 20: the host advances past the two bytes SKIPPAD consumed. -/
theorem test_host_advances :
    (match hostRun [.command ⟨0x0B, 0, 0, 0⟩] (mk regs2x2x24) ⟨[0xEE, 0xEE, 0x20], []⟩ with
      | .next r => decide (r.ended = .finished) && decide (r.state.response.status = .ok) &&
          decide (r.streams = ⟨[0x20], []⟩)
      | _ => false) = true := by decide

end Sys2Proof.Tests
end

