-- ==== Sys2Proof/Tests/Witnesses.lean ====
section
/-!
SUPPORT. For every statement with hypotheses, concrete states and operands that meet them, clause by clause, at the
boundary values of the clauses. Each theorem is named after its statement.
-/
namespace Sys2Proof.Tests
open Sys2Proof Sys2Proof.Machine

/-- Reads "this response was given" as "a next state with this response was answered". -/
theorem next_of_responseOf {o : Host.Outcome State Fault Refusal} {r : Response} (h : responseOf o = some r) :
    ∃ t, o = .next t ∧ t.response = r := by
  cases o with
  | next t => exact ⟨t, rfl, Option.some.inj h⟩
  | fault _ => cases h
  | refused _ => cases h

/-- A state in which the host asserts reset, with the geometry of 2×2×24 loaded. -/
def resetting : State := { State.reset with regs := regs2x2x24, inputs := [.reset] }

/-- The geometry of the largest file, V40: 1431655746×1×24. -/
def regsLargest : Regs := ⟨1, 1431655746, 1, 24, 3, 4294967238, 4294967240, 2, 0, 54, 4294967240, 4294967294⟩

/-! ### Encoding and the step -/

theorem witness_DecoderReadsTheOpcodeMap :
    (0#4).toNat < 12 ∧ (11#4).toNat < 12 ∧ 0xD ≤ (0xD#4).toNat ∧ 0xD ≤ (0xF#4).toNat := by decide

theorem witness_DecodeOfEncodeIsTheInstruction :
    (Instr.rdreg 11).wellFormed = true ∧ (Instr.mar16 0xFFFF).wellFormed = true ∧
    (Instr.geom 0xFFFFFFFF 0xFFFFFFFF 0xFFFF).wellFormed = true := by decide

theorem witness_DecodedInstructionKeepsItsWord :
    decode ⟨0xB7, 1, 2, 3⟩ = .ok (.rdreg 11) ∧ decode ⟨0x03, 0x12344D42, 2, 3⟩ = .ok (.mar16 0x4D42) := ⟨rfl, rfl⟩

/-- The three clauses of R62, each at the first word it takes in, and the last words before them. -/
theorem witness_IllegalIffReservedEncoding :
    13 ≤ (0x0D#8).toNat % 16 ∧ ((0x1C#8).toNat % 16 ≠ 7 ∧ (0x1C#8).toNat / 16 ≠ 0) ∧
    ((0xC7#8).toNat % 16 = 7 ∧ 12 ≤ (0xC7#8).toNat / 16) ∧
    ∀ n ∈ [0x0C#8, 0xB7#8], ¬ (13 ≤ n.toNat % 16 ∨ (n.toNat % 16 ≠ 7 ∧ n.toNat / 16 ≠ 0) ∨
      (n.toNat % 16 = 7 ∧ 12 ≤ n.toNat / 16)) := by decide

/-- The hypotheses of `AnsweredIllegal`, and of `SelectorMustBeZero` at its two ends. -/
theorem witness_AnsweredIllegal :
    (given regs2x2x24 (tx (cmdWord 1 0xB))).inputs = [.command (tx (cmdWord 1 0xB))] ∧
    (tx (cmdWord 1 0xB)).command.cmd = cmdWord 1 0xB ∧ 1#4 ≠ 0#4 ∧ 0xF#4 ≠ 0#4 ∧
    12 ≤ (0xC#4).toNat ∧ 12 ≤ (0xF#4).toNat := by decide

theorem witness_StepRunsTheDecodedCommand :
    (given regs2x2x24 (tx 0xB7)).inputs = [.command (tx 0xB7)] ∧ decode (tx 0xB7).command = .ok (.rdreg 11) :=
  ⟨rfl, rfl⟩

theorem witness_ResetClearsEveryRegister : resetting.inputs = [.reset] ∧ resetting.regs ≠ Regs.reset := by decide

theorem witness_ResetLeavesAnIdleResponse : resetting.inputs = [.reset] := rfl

theorem witness_StepStopsWhereTheSpecHasNoStep :
    State.reset.inputs = [] ∧
    { State.reset with inputs := [.resetDuring (tx 0)] }.inputs = [.resetDuring (tx 0)] ∧
    { State.reset with inputs := [.overlap (tx 0) (tx 1)] }.inputs = [.overlap (tx 0) (tx 1)] := by decide

theorem witness_EveryPresentedCommandIsAnswered :
    (given Regs.reset (tx 0xFF)).inputs = [.command (tx 0xFF)] ∧
    (given Regs.reset (tx 0x02)).inputs = [.command (tx 0x02)] := by decide

theorem witness_ObservedBytesGrowByTheResponse :
    (given Regs.reset (tx 0x04 0x12345678)).inputs = [.command (tx 0x04 0x12345678)] ∧
    ∃ u, step (given Regs.reset (tx 0x04 0x12345678)) = .next u ∧ u.response = ⟨.ok, 0, 0, 0x12345678, 4⟩ :=
  ⟨rfl, next_of_responseOf (by decide)⟩

/-! ### The codec commands: both sides of each port condition -/

theorem witness_Unm16ReadsALittleEndianHalfword :
    ((mk Regs.reset 2).inPort.inOk = true ∧ 2 ≤ min (mk Regs.reset 2).inPort.inAvail.toNat 4) ∧
    ¬ ((mk Regs.reset 1).inPort.inOk = true ∧ 2 ≤ min (mk Regs.reset 1).inPort.inAvail.toNat 4) ∧
    ¬ (State.reset.inPort.inOk = true ∧ 2 ≤ min State.reset.inPort.inAvail.toNat 4) := by decide

theorem witness_Unm32ReadsALittleEndianWord :
    ((mk Regs.reset 4).inPort.inOk = true ∧ 4 ≤ min (mk Regs.reset 4).inPort.inAvail.toNat 4) ∧
    ((mk Regs.reset 7).inPort.inOk = true ∧ 4 ≤ min (mk Regs.reset 7).inPort.inAvail.toNat 4) ∧
    ¬ ((mk Regs.reset 3).inPort.inOk = true ∧ 4 ≤ min (mk Regs.reset 3).inPort.inAvail.toNat 4) := by decide

theorem witness_Mar16EmitsTwoBytesLowFirst :
    ((mk Regs.reset 4 0 2).outPort.outOk = true ∧ 2 ≤ min (mk Regs.reset 4 0 2).outPort.outSpace.toNat 4) ∧
    ¬ ((mk Regs.reset 4 0 1).outPort.outOk = true ∧ 2 ≤ min (mk Regs.reset 4 0 1).outPort.outSpace.toNat 4) ∧
    ¬ (State.reset.outPort.outOk = true ∧ 2 ≤ min State.reset.outPort.outSpace.toNat 4) := by decide

theorem witness_Mar32EmitsFourBytesLowFirst :
    ((mk Regs.reset 4 0 4).outPort.outOk = true ∧ 4 ≤ min (mk Regs.reset 4 0 4).outPort.outSpace.toNat 4) ∧
    ¬ ((mk Regs.reset 4 0 3).outPort.outOk = true ∧ 4 ≤ min (mk Regs.reset 4 0 3).outPort.outSpace.toNat 4) := by
  decide

/-- No geometry; a pad of 3 with two and with three bytes to read; a pad of 0 on an unusable stream. -/
theorem witness_SkippadConsumesThePadding :
    (mk Regs.reset).regs.gstat = 0#1 ∧
    ((mk regs5x1x8 2).regs.gstat = 1#1 ∧ (mk regs5x1x8 2).regs.pad ≠ 0#2 ∧
      ¬ ((mk regs5x1x8 2).inPort.inOk = true ∧
        (mk regs5x1x8 2).regs.pad.toNat ≤ min (mk regs5x1x8 2).inPort.inAvail.toNat 4)) ∧
    ((mk regs5x1x8 3).regs.gstat = 1#1 ∧ (mk regs5x1x8 3).inPort.inOk = true ∧
      (mk regs5x1x8 3).regs.pad.toNat ≤ min (mk regs5x1x8 3).inPort.inAvail.toNat 4) ∧
    ({ State.reset with regs := regs4x1x32 }.regs.gstat = 1#1 ∧ { State.reset with regs := regs4x1x32 }.regs.pad = 0#2 ∧
      { State.reset with regs := regs4x1x32 }.inPort.inOk = false) := by decide

/-- No geometry; a pad of 3 with room for two and for three bytes; a pad of 0 on an unusable sink. -/
theorem witness_EmitpadEmitsZeroBytes :
    (mk Regs.reset).regs.gstat = 0#1 ∧
    ((mk regs5x1x8 4 0 2).regs.gstat = 1#1 ∧ (mk regs5x1x8 4 0 2).regs.pad ≠ 0#2 ∧
      ¬ ((mk regs5x1x8 4 0 2).outPort.outOk = true ∧
        (mk regs5x1x8 4 0 2).regs.pad.toNat ≤ min (mk regs5x1x8 4 0 2).outPort.outSpace.toNat 4)) ∧
    ((mk regs5x1x8 4 0 3).regs.gstat = 1#1 ∧ (mk regs5x1x8 4 0 3).outPort.outOk = true ∧
      (mk regs5x1x8 4 0 3).regs.pad.toNat ≤ min (mk regs5x1x8 4 0 3).outPort.outSpace.toNat 4) ∧
    ({ State.reset with regs := regs4x1x32 }.regs.gstat = 1#1 ∧ { State.reset with regs := regs4x1x32 }.regs.pad = 0#2 ∧
      { State.reset with regs := regs4x1x32 }.outPort.outOk = false) := by decide

/-! ### The geometry and control commands -/

/-- Width 0 and the most negative width; height 0; depth 16; the first file that does not fit; the last that does. -/
theorem witness_GeomLoadsTheGeometryOrRaises :
    sint32 0#32 ≤ 0 ∧ sint32 0x80000000#32 ≤ 0 ∧ 0 < sint32 0x7FFFFFFF#32 ∧ 0 < sint32 1#32 ∧
    ¬ ((16#16).toNat = 8 ∨ (16#16).toNat = 24 ∨ (16#16).toNat = 32) ∧
    (0xFFFFFFFF < (54 : Int) + 0 + (sint32 1431655747#32 * 3 + 3) / 4 * 4 * sint32 1#32) ∧
    ((54 : Int) + 0 + (sint32 1431655746#32 * 3 + 3) / 4 * 4 * sint32 1#32 ≤ 0xFFFFFFFF) ∧
    ((54 : Int) + 1024 + (sint32 5#32 * 1 + 3) / 4 * 4 * sint32 1#32 ≤ 0xFFFFFFFF) := by decide

theorem witness_RdregReadsEachRegister :
    (11#4).toNat < 12 ∧ 12 ≤ (12#4).toNat ∧ 1#4 ≠ 0#4 ∧ (mk Regs.reset).regs.gstat = 0#1 ∧
    (mk regs2x2x24).regs.gstat = 1#1 := by decide

theorem witness_GeomStrideAndPadLaws :
    (∃ t, exec (.geom 5 1 8) (mk Regs.reset) = .next t ∧ t.response = ⟨.ok, 8, 0, 0, 0⟩) ∧
    (∃ t, exec (.geom 4 1 32) (mk regs5x1x8) = .next t ∧ t.response = ⟨.ok, 16, 0, 0, 0⟩) :=
  ⟨next_of_responseOf (by decide), next_of_responseOf (by decide)⟩

/-! ### The row and address commands -/

/-- The reset registers, three loaded geometries and the largest file meet the invariant. -/
theorem witness_Consistent :
    Regs.reset.Consistent ∧ regs2x2x24.Consistent ∧ regs5x1x8.Consistent ∧ regs7x3x8.Consistent ∧
    regsLargest.Consistent := ⟨by decide, by decide, by decide, by decide, by decide⟩

/-- The last row; the row one past it; no geometry. -/
theorem witness_RowrevReversesTheRowIndex :
    (regs2x2x24.gstat = 1#1 ∧ ((1#32).toNat : Int) < sint32 regs2x2x24.height) ∧
    ¬ (regs2x2x24.gstat = 1#1 ∧ ((2#32).toNat : Int) < sint32 regs2x2x24.height) ∧
    ¬ (Regs.reset.gstat = 1#1 ∧ ((0#32).toNat : Int) < sint32 Regs.reset.height) := by decide

theorem witness_RowaddrGivesTheRowOffset :
    (regs7x3x8.Consistent ∧ regs7x3x8.gstat = 1#1 ∧ ((2#32).toNat : Int) < sint32 regs7x3x8.height) ∧
    ¬ (regs7x3x8.gstat = 1#1 ∧ ((3#32).toNat : Int) < sint32 regs7x3x8.height) := by decide

/-- The last pixel of the last row; one column past it; one row past it. -/
theorem witness_PixaddrGivesThePixelOffset :
    (regs7x3x8.Consistent ∧ regs7x3x8.gstat = 1#1 ∧ ((6#32).toNat : Int) < sint32 regs7x3x8.width ∧
      ((2#32).toNat : Int) < sint32 regs7x3x8.height) ∧
    ¬ (((7#32).toNat : Int) < sint32 regs7x3x8.width) ∧ ¬ (((3#32).toNat : Int) < sint32 regs7x3x8.height) := by decide

theorem witness_RowrevIsItsOwnInverse :
    regs7x3x8.Consistent ∧ regs7x3x8.gstat = 1#1 ∧ ((2#32).toNat : Int) < sint32 regs7x3x8.height := by decide

theorem witness_PixelLiesInsideThePayload :
    (mk regs7x3x8).regs.Consistent ∧
    ∃ t, exec (.pixaddr 6 0) (mk regs7x3x8) = .next t ∧ t.response = ⟨.ok, 22, 0, 0, 0⟩ :=
  ⟨by decide, next_of_responseOf (by decide)⟩

/-- Neighbours in a row, and the two ends of neighbouring rows. -/
theorem witness_DistinctPixelsHaveDisjointBytes :
    (mk regs2x2x24).regs.Consistent ∧
    (∃ t, exec (.pixaddr 0 0) (mk regs2x2x24) = .next t ∧ t.response = ⟨.ok, 8, 0, 0, 0⟩) ∧
    (∃ t, exec (.pixaddr 1 0) (mk regs2x2x24) = .next t ∧ t.response = ⟨.ok, 11, 0, 0, 0⟩) ∧
    (∃ t, exec (.pixaddr 1 1) (mk regs2x2x24) = .next t ∧ t.response = ⟨.ok, 3, 0, 0, 0⟩) ∧
    ((0#32, 0#32) ≠ (1#32, 0#32)) ∧ ((0#32, 0#32) ≠ (1#32, 1#32)) :=
  ⟨by decide, next_of_responseOf (by decide), next_of_responseOf (by decide), next_of_responseOf (by decide),
    by decide, by decide⟩

/-- The last byte of a pixel, the first and the last byte of the payload as pixel and as padding. -/
theorem witness_InverseMapAgreesWithPixaddr :
    (mk regs2x2x24).regs.Consistent ∧ (mk regs2x2x24).regs.gstat = 1#1 ∧
    (∃ t, exec (.pixaddr 1 0) (mk regs2x2x24) = .next t ∧ t.response = ⟨.ok, 11, 0, 0, 0⟩) ∧
    2 < regs2x2x24.bypp.toNat ∧ 15 < regs2x2x24.imgsize.toNat ∧
    regs2x2x24.locate 0 = .pixel 0 1 0 ∧ regs2x2x24.locate 13 = .pixel 1 0 2 ∧
    regs2x2x24.locate 6 = .padding 1 6 ∧ regs2x2x24.locate 15 = .padding 0 7 :=
  ⟨by decide, by decide, next_of_responseOf (by decide), by decide, by decide, by decide, by decide, by decide,
    by decide⟩

theorem witness_RowsAreFourAlignedInThePayload :
    (mk regs7x3x8).regs.Consistent ∧
    ∃ t, exec (.rowaddr 0) (mk regs7x3x8) = .next t ∧ t.response = ⟨.ok, 16, 0, 0, 0⟩ :=
  ⟨by decide, next_of_responseOf (by decide)⟩

/-- A depth of 8 and another one; the first and the last entry. -/
theorem witness_PaletteEntriesAreBlueGreenRedReserved :
    (regs5x1x8.Consistent ∧ regs5x1x8.gstat = 1#1 ∧ regs5x1x8.bpp.toNat = 8) ∧ 0 < 256 ∧ 255 < 256 ∧
    (regs2x2x24.Consistent ∧ regs2x2x24.gstat = 1#1 ∧ regs2x2x24.bpp.toNat ≠ 8) := by decide

/-! ### Laws of the codec -/

theorem witness_MarshalThenUnmarshalIsTheValue :
    (∃ t, exec (.mar16 0x4D42) (mk Regs.reset 4 0 2) = .next t ∧ t.response = ⟨.ok, 0, 0, 0x4D42, 2⟩) ∧
    (2 ≤ (mk Regs.reset 2 0xEEEE4D42).inPort.inAvail.toNat ∧
      ∀ k < 2, lane (mk Regs.reset 2 0xEEEE4D42).inPort.inData k = lane 0x4D42 k) ∧
    (∃ t, exec (.mar32 0x12345678) (mk Regs.reset) = .next t ∧ t.response = ⟨.ok, 0, 0, 0x12345678, 4⟩) ∧
    (4 ≤ (mk Regs.reset 4 0x12345678).inPort.inAvail.toNat ∧
      ∀ k < 4, lane (mk Regs.reset 4 0x12345678).inPort.inData k = lane 0x12345678 k) ∧
    (∃ t, exec .unm16 (mk Regs.reset 4 0x00464D42) = .next t ∧ t.response = ⟨.ok, 0x4D42, 2, 0, 0⟩) ∧
    (∃ t, exec .unm32 (mk Regs.reset 4 0x12345678) = .next t ∧ t.response = ⟨.ok, 0x12345678, 4, 0, 0⟩) :=
  ⟨next_of_responseOf (by decide), by decide, next_of_responseOf (by decide), by decide,
    next_of_responseOf (by decide), next_of_responseOf (by decide)⟩

theorem witness_HalfwordsAndWordsAgree :
    (lane (mk Regs.reset 4 0x00001234).inPort.inData 0 = lane (mk Regs.reset 4 0x12345678).inPort.inData 2 ∧
      lane (mk Regs.reset 4 0x00001234).inPort.inData 1 = lane (mk Regs.reset 4 0x12345678).inPort.inData 3) ∧
    (∃ t, exec .unm16 (mk Regs.reset 4 0x12345678) = .next t ∧ t.response = ⟨.ok, 0x5678, 2, 0, 0⟩) ∧
    (∃ t, exec .unm16 (mk Regs.reset 4 0x00001234) = .next t ∧ t.response = ⟨.ok, 0x1234, 2, 0, 0⟩) ∧
    (∃ t, exec .unm32 (mk Regs.reset 4 0x12345678) = .next t ∧ t.response = ⟨.ok, 0x12345678, 4, 0, 0⟩) ∧
    (∃ t, exec (.mar16 ((0x12345678#32).extractLsb' 0 16)) (mk Regs.reset) = .next t ∧
      t.response = ⟨.ok, 0, 0, 0x5678, 2⟩) ∧
    (∃ t, exec (.mar16 ((0x12345678#32).extractLsb' 16 16)) (mk Regs.reset) = .next t ∧
      t.response = ⟨.ok, 0, 0, 0x1234, 2⟩) ∧
    (∃ t, exec (.mar32 0x12345678) (mk Regs.reset) = .next t ∧ t.response = ⟨.ok, 0, 0, 0x12345678, 4⟩) :=
  ⟨by decide, next_of_responseOf (by decide), next_of_responseOf (by decide), next_of_responseOf (by decide),
    next_of_responseOf (by decide), next_of_responseOf (by decide), next_of_responseOf (by decide)⟩

theorem witness_PadCommandsCompleteTheRow :
    (mk regs5x1x8 3).regs.Consistent ∧ (mk regs5x1x8 4 0 3).regs.Consistent ∧
    (∃ t, exec .skippad (mk regs5x1x8 3) = .next t ∧ t.response = ⟨.ok, 0, 3, 0, 0⟩) ∧
    (∃ t, exec .emitpad (mk regs5x1x8 4 0 3) = .next t ∧ t.response = ⟨.ok, 0, 0, 0, 3⟩) :=
  ⟨by decide, by decide, next_of_responseOf (by decide), next_of_responseOf (by decide)⟩

/-- A host that presents exactly the bytes it has, and one that presents fewer. -/
theorem witness_TransfersMoveTheStreamsNextBytes :
    (Streams.mk [0x42, 0x4D] []).Offers (mk Regs.reset 2 0xEEEE4D42).inPort ∧
    (∃ t, exec .unm16 (mk Regs.reset 2 0xEEEE4D42) = .next t ∧ t.response = ⟨.ok, 0x4D42, 2, 0, 0⟩) ∧
    (Streams.mk [0x78, 0x56, 0x34, 0x12] []).Offers (mk Regs.reset 7 0x12345678).inPort ∧
    (∃ t, exec .unm32 (mk Regs.reset 7 0x12345678) = .next t ∧ t.response = ⟨.ok, 0x12345678, 4, 0, 0⟩) ∧
    (Streams.mk [0xAA, 0xBB, 0xCC, 0xDD] []).Offers (mk regs5x1x8 3 0xCCBBAA).inPort ∧
    (∃ t, exec .skippad (mk regs5x1x8 3 0xCCBBAA) = .next t ∧ t.response = ⟨.ok, 0, 3, 0, 0⟩) ∧
    (∃ t, exec (.mar16 0x4D42) (mk Regs.reset) = .next t ∧ t.response = ⟨.ok, 0, 0, 0x4D42, 2⟩) ∧
    (∃ t, exec (.mar32 0x12345678) (mk Regs.reset) = .next t ∧ t.response = ⟨.ok, 0, 0, 0x12345678, 4⟩) ∧
    (∃ t, exec .emitpad (mk regs5x1x8) = .next t ∧ t.response = ⟨.ok, 0, 0, 0, 3⟩) :=
  ⟨by decide, next_of_responseOf (by decide), by decide, next_of_responseOf (by decide), by decide,
    next_of_responseOf (by decide), next_of_responseOf (by decide), next_of_responseOf (by decide),
    next_of_responseOf (by decide)⟩

/-! ### Statuses -/

/-- One presented command for every status. -/
theorem witness_StatusesHaveTheirCodesAndRaisers :
    (∃ u, step (given Regs.reset (tx 0x00)) = .next u ∧ u.response = ⟨.ok, 0, 0, 0, 0⟩) ∧
    (∃ u, step (given Regs.reset { tx 0x01 with inPort := ⟨true, 1, 0⟩ }) = .next u ∧
      u.response = ⟨.short, 0, 0, 0, 0⟩) ∧
    (∃ u, step (given Regs.reset (tx 0x08)) = .next u ∧ u.response = ⟨.invalidArg, 0, 0, 0, 0⟩) ∧
    (∃ u, step (given Regs.reset (tx 0x05 2 2 16)) = .next u ∧ u.response = ⟨.unsupported, 0, 0, 0, 0⟩) ∧
    (∃ u, step (given Regs.reset (tx 0x05 1431655747 1 24)) = .next u ∧ u.response = ⟨.overflow, 0, 0, 0, 0⟩) ∧
    (∃ u, step (given Regs.reset (tx 0x0D)) = .next u ∧ u.response = ⟨.illegal, 0, 0, 0, 0⟩) :=
  ⟨next_of_responseOf (by decide), next_of_responseOf (by decide), next_of_responseOf (by decide),
    next_of_responseOf (by decide), next_of_responseOf (by decide), next_of_responseOf (by decide)⟩

/-- Two states that differ in the status given before and in what comes after. -/
theorem witness_StatusDoesNotDependOnEarlierStatuses :
    ((given regs2x2x24 (tx 0x09)).respond ⟨.illegal, 0, 0, 0, 0⟩).inputs = [.command (tx 0x09)] ∧
    { given regs2x2x24 (tx 0x09) with inputs := [.command (tx 0x09), .reset] }.inputs =
      [.command (tx 0x09), .reset] ∧
    ((given regs2x2x24 (tx 0x09)).respond ⟨.illegal, 0, 0, 0, 0⟩).regs = regs2x2x24 ∧
    ∃ u, step ((given regs2x2x24 (tx 0x09)).respond ⟨.illegal, 0, 0, 0, 0⟩) = .next u ∧
      u.response = ⟨.ok, 8, 0, 0, 0⟩ :=
  ⟨rfl, rfl, rfl, next_of_responseOf (by decide)⟩

/-- A refused GEOM with a geometry loaded before it. -/
theorem witness_RaisedStatusHasNoEffect :
    (given regs2x2x24 (tx 0x05 2 2 16)).inputs = [.command (tx 0x05 2 2 16)] ∧
    ∃ u, step (given regs2x2x24 (tx 0x05 2 2 16)) = .next u ∧ u.response = ⟨.unsupported, 0, 0, 0, 0⟩ :=
  ⟨rfl, next_of_responseOf (by decide)⟩

/-- Every command that can raise SHORT, one byte short of its width, and UNM16 with exactly its width. -/
theorem witness_ShortIffTheTransferIsNotPossible :
    (∃ t, exec .unm16 (mk Regs.reset 1) = .next t ∧ t.response = ⟨.short, 0, 0, 0, 0⟩) ∧
    (∃ t, exec .unm16 (mk Regs.reset 2) = .next t ∧ t.response = ⟨.ok, 0, 2, 0, 0⟩) ∧
    (∃ t, exec .unm32 (mk Regs.reset 3) = .next t ∧ t.response = ⟨.short, 0, 0, 0, 0⟩) ∧
    (∃ t, exec (.mar16 1) (mk Regs.reset 4 0 1) = .next t ∧ t.response = ⟨.short, 0, 0, 0, 0⟩) ∧
    (∃ t, exec (.mar32 1) (mk Regs.reset 4 0 3) = .next t ∧ t.response = ⟨.short, 0, 0, 0, 0⟩) ∧
    (∃ t, exec .skippad (mk regs5x1x8 2) = .next t ∧ t.response = ⟨.short, 0, 0, 0, 0⟩) ∧
    (∃ t, exec .emitpad (mk regs5x1x8 4 0 2) = .next t ∧ t.response = ⟨.short, 0, 0, 0, 0⟩) :=
  ⟨next_of_responseOf (by decide), next_of_responseOf (by decide), next_of_responseOf (by decide),
    next_of_responseOf (by decide), next_of_responseOf (by decide), next_of_responseOf (by decide),
    next_of_responseOf (by decide)⟩

theorem witness_AbsentGeometryRaisesInvalidArg :
    (mk Regs.reset).regs.gstat = 0#1 ∧ 1 ≤ (1#4).toNat ∧ (11#4).toNat ≤ 11 ∧
    (∃ t, exec (.rdreg 0) (mk Regs.reset) = .next t ∧ t.response = ⟨.ok, 0, 0, 0, 0⟩) ∧
    (∃ t, exec (.geom 2 2 16) (mk Regs.reset) = .next t ∧ t.response = ⟨.unsupported, 0, 0, 0, 0⟩) :=
  ⟨by decide, by decide, by decide, next_of_responseOf (by decide), next_of_responseOf (by decide)⟩

/-- A word that decodes to nothing; V51's GEOM, whose width and depth are both bad; depth alone bad; no geometry with
an empty stream; each coordinate one past the last. -/
theorem witness_StatusesAreReportedInTheirOrder :
    decodeTableWord 8 0x1D = none ∧ sint32 0#32 ≤ 0 ∧ 0 < sint32 2#32 ∧
    ¬ ((16#16).toNat = 8 ∨ (16#16).toNat = 24 ∨ (16#16).toNat = 32) ∧ State.reset.regs.gstat = 0#1 ∧
    sint32 (mk regs2x2x24).regs.height ≤ (2#32).toNat ∧ sint32 (mk regs2x2x24).regs.width ≤ (2#32).toNat := by decide

/-! ### Whole-machine rules -/

/-- A command that writes the registers and one that does not. -/
theorem witness_OnlyGeomAndGclrWriteRegisters :
    (∃ t, exec (.geom 5 1 8) (mk Regs.reset) = .next t ∧ t.response = ⟨.ok, 8, 0, 0, 0⟩) ∧
    (∃ t, exec .unm32 (mk regs2x2x24) = .next t ∧ t.response = ⟨.ok, 0, 4, 0, 0⟩) ∧
    (∀ w h d, Instr.unm32 ≠ .geom w h d) ∧ Instr.unm32 ≠ .gclr :=
  ⟨next_of_responseOf (by decide), next_of_responseOf (by decide), fun _ _ _ => Instr.noConfusion, by decide⟩

/-- A status other than OK; each command that moves bytes; one that moves none. -/
theorem witness_CommandsMoveExactlyTheirWidth :
    (∃ t, exec .unm32 (mk Regs.reset 3) = .next t ∧ t.response = ⟨.short, 0, 0, 0, 0⟩) ∧
    (∃ t, exec .unm16 (mk Regs.reset 2) = .next t ∧ t.response = ⟨.ok, 0, 2, 0, 0⟩) ∧
    (∃ t, exec .skippad (mk regs5x1x8 3) = .next t ∧ t.response = ⟨.ok, 0, 3, 0, 0⟩) ∧
    (∃ t, exec (.mar16 0xFFFF) (mk Regs.reset) = .next t ∧ t.response = ⟨.ok, 0, 0, 0xFFFF, 2⟩) ∧
    (∃ t, exec (.mar32 0xFFFFFFFF) (mk Regs.reset) = .next t ∧ t.response = ⟨.ok, 0, 0, 0xFFFFFFFF, 4⟩) ∧
    (∃ t, exec .emitpad (mk regs5x1x8) = .next t ∧ t.response = ⟨.ok, 0, 0, 0, 3⟩) ∧
    (∃ t, exec .nop (mk regs5x1x8) = .next t ∧ t.response = ⟨.ok, 0, 0, 0, 0⟩) :=
  ⟨next_of_responseOf (by decide), next_of_responseOf (by decide), next_of_responseOf (by decide),
    next_of_responseOf (by decide), next_of_responseOf (by decide), next_of_responseOf (by decide),
    next_of_responseOf (by decide)⟩

/-- MAR16 leaves two lanes beyond its count and moves no input byte; GCLR moves nothing. -/
theorem witness_UnsetResponseFieldsAreZero :
    (given Regs.reset (tx 0x03 0xFFFFFFFF)).inputs = [.command (tx 0x03 0xFFFFFFFF)] ∧
    decode (tx 0x03 0xFFFFFFFF).command = .ok (.mar16 0xFFFF) ∧
    (∃ u, step (given Regs.reset (tx 0x03 0xFFFFFFFF)) = .next u ∧ u.response = ⟨.ok, 0, 0, 0xFFFF, 2⟩) ∧
    decode (tx 0x03 0xFFFFFFFF).command ≠ .ok .unm16 ∧ decode (tx 0x06).command = .ok .gclr :=
  ⟨rfl, rfl, next_of_responseOf (by decide), nofun, rfl⟩

/-- One command of each of the three kinds: it reads, it writes, it does neither. -/
theorem witness_OnlyStreamCommandsReachTheStreams :
    (∃ t, exec (.mar32 1) (mk Regs.reset) = .next t ∧ t.response = ⟨.ok, 0, 0, 1, 4⟩) ∧
    (∃ t, exec .unm16 (mk Regs.reset) = .next t ∧ t.response = ⟨.ok, 0, 2, 0, 0⟩) ∧
    (∃ t, exec (.rowaddr 0) (mk regs2x2x24) = .next t ∧ t.response = ⟨.ok, 8, 0, 0, 0⟩) :=
  ⟨next_of_responseOf (by decide), next_of_responseOf (by decide), next_of_responseOf (by decide)⟩

/-- Two bytes presented, and lanes 2 and 3 changed. -/
theorem witness_LanesBeyondAvailAreNotRead :
    (∀ k : Nat, k < min (mk Regs.reset 2 0x00004D42).inPort.inAvail.toNat 4 →
      lane 0xEEEE4D42 k = lane (mk Regs.reset 2 0x00004D42).inPort.inData k) ∧
    ∃ t, exec .unm16 (mk Regs.reset 2 0x00004D42) = .next t ∧ t.response = ⟨.ok, 0x4D42, 2, 0, 0⟩ :=
  ⟨by decide, next_of_responseOf (by decide)⟩

/-- A GEOM from reset, a GCLR and a reset with a geometry loaded. -/
theorem witness_EveryStepKeepsRegistersConsistent :
    (given Regs.reset (tx 0x05 5 1 8)).regs.Consistent ∧
    (∃ t, step (given Regs.reset (tx 0x05 5 1 8)) = .next t ∧ t.response = ⟨.ok, 8, 0, 0, 0⟩) ∧
    (given regs2x2x24 (tx 0x06)).regs.Consistent ∧
    (∃ t, step (given regs2x2x24 (tx 0x06)) = .next t ∧ t.response = ⟨.ok, 0, 0, 0, 0⟩) ∧
    resetting.regs.Consistent ∧ (∃ t, step resetting = .next t ∧ t.response = ⟨.ok, 0, 0, 0, 0⟩) :=
  ⟨by decide, next_of_responseOf (by decide), by decide, next_of_responseOf (by decide), by decide,
    next_of_responseOf (by decide)⟩

end Sys2Proof.Tests
end

section
/-!
PROOF. The response's ranges and unset fields (10_state.md R22). A command's response has one of the four shapes of
`Machine/Ops.lean`; which shapes an instruction can give is said once, and the clauses of R22 are read off the shape.
-/
namespace Sys2Proof

/-- The instructions that reach IN (20_memory.md R35). -/
def Instr.ReadsIn (i : Instr) : Prop := i = .unm16 ∨ i = .unm32 ∨ i = .skippad

/-- The instructions that reach OUT (20_memory.md R35). -/
def Instr.WritesOut (i : Instr) : Prop := (∃ v, i = .mar16 v) ∨ (∃ v, i = .mar32 v) ∨ i = .emitpad

/-- The instructions whose rules name no result (R22). -/
def Instr.NamesNoResult (i : Instr) : Prop :=
  i = .nop ∨ i = .gclr ∨ (∃ v, i = .mar16 v) ∨ (∃ v, i = .mar32 v) ∨ i = .skippad ∨ i = .emitpad

end Sys2Proof

namespace Sys2Proof.Machine

/-- The responses `i` can be given, one constructor per shape of response: bytes are consumed or emitted only by the
instructions that reach that stream, at most a port's four at a time, and a result is given only where one is named. -/
inductive Answers (i : Instr) : Response → Prop where
  | raised (e : Status) : Answers i (.raised e)
  | completed {v : Word} (hv : i.NamesNoResult → v = 0) : Answers i (.completed v)
  | consumed {n : Nat} {v : Word} (hi : i.ReadsIn) (hn : n ≤ 4) (hv : i.NamesNoResult → v = 0) :
      Answers i (.consumed n v)
  | emitted {n : Nat} (v : Word) (hi : i.WritesOut) (hn : n ≤ 4) : Answers i (.emitted n v)

/-! ### The clauses of R22, read off the shape -/

namespace Answers

variable {i : Instr} {r : Response}

theorem inConsumed_le (h : Answers i r) : r.inConsumed.toNat ≤ 4 := by
  cases h with
  | consumed _ hn _ => rwa [Response.consumed_inConsumed, count3_toNat _ (by omega)]
  | raised | completed | emitted => simp

theorem outCount_le (h : Answers i r) : r.outCount.toNat ≤ 4 := by
  cases h with
  | emitted _ _ hn => rwa [Response.emitted_outCount, count3_toNat _ (by omega)]
  | raised | completed | consumed => simp

theorem lane_outData_eq_zero (h : Answers i r) {k : Nat} (hk : r.outCount.toNat ≤ k) (hk4 : k < 4) :
    lane r.outData k = 0 := by
  cases h with
  | emitted _ _ hn =>
    rw [Response.emitted_outCount, count3_toNat _ (by omega)] at hk
    rw [Response.emitted_outData, lane_lowBytes _ _ _ hk4, if_neg (by omega)]
    rfl
  | raised | completed | consumed => simp [lane]

theorem result_eq_zero (h : Answers i r) (hi : i.NamesNoResult) : r.result = 0 := by
  cases h with
  | completed hv => exact hv hi
  | consumed _ _ hv => exact hv hi
  | raised | emitted => rfl

theorem inConsumed_eq_zero (h : Answers i r) (hi : ¬ i.ReadsIn) : r.inConsumed = 0 := by
  cases h with
  | consumed hr => exact absurd hr hi
  | raised | completed | emitted => rfl

theorem outCount_eq_zero (h : Answers i r) (hi : ¬ i.WritesOut) : r.outCount = 0 := by
  cases h with
  | emitted _ hw => exact absurd hw hi
  | raised | completed | consumed => rfl

end Answers

/-! ### What each shared operation, and so each instruction, answers -/

section
variable {i : Instr} {n : Nat} {v : Word} {s t : State}

theorem answers_of_raise {e : Status} (h : raise e s = .next t) : Answers i t.response := by
  obtain rfl := answer_eq_next_iff.1 h
  exact .raised e

theorem answers_of_complete (hv : i.NamesNoResult → v = 0) (h : complete v s = .next t) :
    Answers i t.response := by
  obtain rfl := answer_eq_next_iff.1 h
  exact .completed hv

theorem answers_of_unmarshal (hi : i.ReadsIn) (hn : n ≤ 4) (hres : ¬ i.NamesNoResult)
    (h : unmarshal n s = .next t) : Answers i t.response := by
  rw [unmarshal_eq] at h
  cases h
  rw [State.respond_response]
  split
  · exact .consumed hi hn (absurd · hres)
  · exact .raised _

theorem answers_of_marshal (hi : i.WritesOut) (hn : n ≤ 4) (h : marshal n v s = .next t) :
    Answers i t.response := by
  rw [marshal_eq] at h
  cases h
  rw [State.respond_response]
  split
  · exact .emitted v hi hn
  · exact .raised _

theorem answers_of_discard (hi : i.ReadsIn) (hn : n ≤ 4) (h : discard n s = .next t) :
    Answers i t.response := by
  rw [discard_eq] at h
  cases h
  rw [State.respond_response]
  split
  · exact .raised _
  · exact .consumed hi hn fun _ => rfl

theorem answers_of_emitZeros (hi : i.WritesOut) (hn : n ≤ 4) (h : emitZeros n s = .next t) :
    Answers i t.response := by
  rw [emitZeros_eq] at h
  cases h
  rw [State.respond_response]
  split
  · exact .raised _
  · exact .emitted _ hi hn

/-- A command that completes under a condition and raises a status otherwise. -/
theorem answers_of_ite {c : Prop} [Decidable c] {a b : Host.Outcome State Fault Refusal}
    (ha : a = .next t → Answers i t.response) (hb : b = .next t → Answers i t.response)
    (h : (if c then a else b) = .next t) : Answers i t.response := by
  split at h
  · exact ha h
  · exact hb h

/-- The two-bit PAD register is below a port's four bytes. -/
theorem pad_toNat_le (r : Regs) : r.pad.toNat ≤ 4 := by
  have := r.pad.isLt
  omega

/-- What `exec` can answer. -/
theorem answers_of_exec (h : exec i s = .next t) : Answers i t.response := by
  cases i with
  | nop => exact answers_of_complete (fun _ => rfl) h
  | gclr => exact answers_of_complete (fun _ => rfl) h
  | unm16 => exact answers_of_unmarshal (.inl rfl) (by decide) (by simp [Instr.NamesNoResult]) h
  | unm32 => exact answers_of_unmarshal (.inr (.inl rfl)) (by decide) (by simp [Instr.NamesNoResult]) h
  | mar16 w => exact answers_of_marshal (.inl ⟨w, rfl⟩) (by decide) h
  | mar32 w => exact answers_of_marshal (.inr (.inl ⟨w, rfl⟩)) (by decide) h
  | skippad =>
    exact answers_of_ite (answers_of_discard (.inr (.inr rfl)) (pad_toNat_le _)) answers_of_raise h
  | emitpad =>
    exact answers_of_ite (answers_of_emitZeros (.inr (.inr rfl)) (pad_toNat_le _)) answers_of_raise h
  | rowrev y | rowaddr y | pixaddr x y =>
    exact answers_of_ite (answers_of_complete (by simp [Instr.NamesNoResult])) answers_of_raise h
  | geom w ht bpp =>
    change execGeom w ht bpp s = .next t at h
    unfold execGeom at h
    split at h
    · exact answers_of_raise h
    · exact answers_of_complete (by simp [Instr.NamesNoResult]) h
  | rdreg sel =>
    change execRdreg sel s = .next t at h
    unfold execRdreg at h
    split at h
    · exact answers_of_raise h
    · exact answers_of_ite answers_of_raise (answers_of_complete (by simp [Instr.NamesNoResult])) h

/-- What `step` does with a presented command: an ILLEGAL one raises ILLEGAL (60_exceptions.md R95), and any other is
executed on the presented ports. -/
theorem step_command_cases {tr : Transaction} {rest : List HostInput} (hs : s.inputs = .command tr :: rest)
    (h : step s = .next t) :
    (∃ e, decode tr.command = .error e ∧ raise .illegal (s.present tr rest) = .next t) ∨
    (∃ i, decode tr.command = .ok i ∧ exec i (s.present tr rest) = .next t) := by
  simp only [step, hs] at h
  split at h
  · exact .inr ⟨_, ‹_›, h⟩
  · exact .inl ⟨_, ‹_›, h⟩

end

/-- Settles O44: an ILLEGAL command's response is all 0 but for its status, and a decoded command's has one of the
shapes `Answers` allows its instruction. -/
theorem unsetResponseFieldsAreZero : Obligations.UnsetResponseFieldsAreZero := by
  intro s u t rest hs hstep
  obtain ⟨e, hd, hu⟩ | ⟨i, hd, hu⟩ := step_command_cases hs hstep
  · obtain rfl := answer_eq_next_iff.1 hu
    simp [lane]
  · have ha : Answers i u.response := answers_of_exec hu
    simp only [hd, Except.ok.injEq, ne_eq]
    exact ⟨ha.inConsumed_le, ha.outCount_le, fun _ => ha.lane_outData_eq_zero, ha.result_eq_zero,
      fun h16 h32 hpad => ha.inConsumed_eq_zero (by simp [Instr.ReadsIn, h16, h32, hpad]),
      fun h16 h32 hpad => ha.outCount_eq_zero (by simp [Instr.WritesOut, h16, h32, hpad])⟩

end Sys2Proof.Machine
end

section
/-!
PROOF. The byte streams (20_memory.md R39, R43) and the palette (R50). What decides SHORT and what fixes the byte
count is said once per transfer operation; each stream command is one of those operations, and no other command
raises SHORT.
-/
namespace Sys2Proof.Machine

/-! ### Transfers that are not possible (R39) -/

theorem InPort.canRead_eq_false_iff {p : InPort} {n : Nat} :
    p.canRead n = false ↔ p.inOk = false ∨ min p.inAvail.toNat 4 < n := by
  rw [← Bool.not_eq_true, InPort.canRead_iff, not_and_or, Bool.not_eq_true, Nat.not_le]

theorem OutPort.canWrite_eq_false_iff {p : OutPort} {n : Nat} :
    p.canWrite n = false ↔ p.outOk = false ∨ min p.outSpace.toNat 4 < n := by
  rw [← Bool.not_eq_true, OutPort.canWrite_iff, not_and_or, Bool.not_eq_true, Nat.not_le]

section
variable {i : Instr} {n : Nat} {v : Word} {e : Status} {s t : State}

/-! ### When each transfer raises SHORT (R93) -/

theorem unmarshal_short_iff (h : unmarshal n s = .next t) :
    t.response.status = .short ↔ s.inPort.canRead n = false := by
  rw [unmarshal_eq] at h
  cases h
  cases hc : s.inPort.canRead n <;> simp

theorem marshal_short_iff (h : marshal n v s = .next t) :
    t.response.status = .short ↔ s.outPort.canWrite n = false := by
  rw [marshal_eq] at h
  cases h
  cases hc : s.outPort.canWrite n <;> simp

theorem discard_short_iff (h : discard n s = .next t) :
    t.response.status = .short ↔ n ≠ 0 ∧ s.inPort.canRead n = false := by
  rw [discard_eq] at h
  cases h
  by_cases hc : n ≠ 0 ∧ s.inPort.canRead n = false
  · simp [hc]
  · rw [if_neg hc]
    simpa using hc

theorem emitZeros_short_iff (h : emitZeros n s = .next t) :
    t.response.status = .short ↔ n ≠ 0 ∧ s.outPort.canWrite n = false := by
  rw [emitZeros_eq] at h
  cases h
  by_cases hc : n ≠ 0 ∧ s.outPort.canWrite n = false
  · simp [hc]
  · rw [if_neg hc]
    simpa using hc

/-! ### What each transfer moves when it completes (R43) -/

theorem unmarshal_inConsumed (h : unmarshal n s = .next t) (hok : t.response.status = .ok) :
    t.response.inConsumed = count3 n := by
  rw [unmarshal_eq] at h
  cases h
  rw [State.respond_response] at hok ⊢
  split at hok
  · rw [if_pos ‹_›, Response.consumed_inConsumed]
  · cases hok

theorem marshal_outCount (h : marshal n v s = .next t) (hok : t.response.status = .ok) :
    t.response.outCount = count3 n := by
  rw [marshal_eq] at h
  cases h
  rw [State.respond_response] at hok ⊢
  split at hok
  · rw [if_pos ‹_›, Response.emitted_outCount]
  · cases hok

theorem discard_inConsumed (h : discard n s = .next t) (hok : t.response.status = .ok) :
    t.response.inConsumed = count3 n := by
  rw [discard_eq] at h
  cases h
  rw [State.respond_response] at hok ⊢
  split at hok
  · cases hok
  · rw [if_neg ‹_›, Response.consumed_inConsumed]

theorem emitZeros_outCount (h : emitZeros n s = .next t) (hok : t.response.status = .ok) :
    t.response.outCount = count3 n := by
  rw [emitZeros_eq] at h
  cases h
  rw [State.respond_response] at hok ⊢
  split at hok
  · cases hok
  · rw [if_neg ‹_›, Response.emitted_outCount]

/-! ### The pad commands -/

/-- A command that needs a geometry: it runs its transfer `a` with one loaded, and raises INVALID_ARG without (R97). -/
theorem needsGeometry_cases {a : Host.Outcome State Fault Refusal}
    (h : (if s.regs.valid then a else raise .invalidArg s) = .next t) :
    (s.regs.gstat = 1#1 ∧ a = .next t) ∨ (s.regs.gstat ≠ 1#1 ∧ t.response.status = .invalidArg) := by
  split at h
  · exact .inl ⟨Regs.valid_iff.1 ‹_›, h⟩
  · obtain rfl := answer_eq_next_iff.1 h
    exact .inr ⟨mt Regs.valid_iff.2 ‹_›, rfl⟩

/-- SKIPPAD is `discard` of a row's padding (40_codec.md R71). -/
theorem exec_skippad_cases (h : exec .skippad s = .next t) :
    (s.regs.gstat = 1#1 ∧ discard s.regs.pad.toNat s = .next t) ∨
    (s.regs.gstat ≠ 1#1 ∧ t.response.status = .invalidArg) :=
  needsGeometry_cases h

/-- EMITPAD is `emitZeros` of a row's padding (40_codec.md R72). -/
theorem exec_emitpad_cases (h : exec .emitpad s = .next t) :
    (s.regs.gstat = 1#1 ∧ emitZeros s.regs.pad.toNat s = .next t) ∨
    (s.regs.gstat ≠ 1#1 ∧ t.response.status = .invalidArg) :=
  needsGeometry_cases h

theorem exec_skippad_short_iff (h : exec .skippad s = .next t) :
    t.response.status = .short ↔
      s.regs.gstat = 1#1 ∧ 0 < s.regs.pad.toNat ∧ s.inPort.canRead s.regs.pad.toNat = false := by
  obtain ⟨hv, hd⟩ | ⟨hv, hst⟩ := exec_skippad_cases h
  · rw [discard_short_iff hd, Nat.pos_iff_ne_zero, and_iff_right hv]
  · simp [hv, hst]

theorem exec_emitpad_short_iff (h : exec .emitpad s = .next t) :
    t.response.status = .short ↔
      s.regs.gstat = 1#1 ∧ 0 < s.regs.pad.toNat ∧ s.outPort.canWrite s.regs.pad.toNat = false := by
  obtain ⟨hv, hd⟩ | ⟨hv, hst⟩ := exec_emitpad_cases h
  · rw [emitZeros_short_iff hd, Nat.pos_iff_ne_zero, and_iff_right hv]
  · simp [hv, hst]

theorem pad_count3_toNat (r : Regs) : (count3 r.pad.toNat).toNat = r.pad.toNat :=
  count3_toNat _ (Nat.lt_of_le_of_lt (pad_toNat_le r) (by decide))

theorem exec_skippad_inConsumed (h : exec .skippad s = .next t) (hok : t.response.status = .ok) :
    t.response.inConsumed.toNat = s.regs.pad.toNat := by
  obtain ⟨_, hd⟩ | ⟨_, hst⟩ := exec_skippad_cases h
  · rw [discard_inConsumed hd hok, pad_count3_toNat]
  · cases hok.symm.trans hst

theorem exec_emitpad_outCount (h : exec .emitpad s = .next t) (hok : t.response.status = .ok) :
    t.response.outCount.toNat = s.regs.pad.toNat := by
  obtain ⟨_, hd⟩ | ⟨_, hst⟩ := exec_emitpad_cases h
  · rw [emitZeros_outCount hd hok, pad_count3_toNat]
  · cases hok.symm.trans hst

/-! ### The other commands never raise SHORT -/

theorem complete_ne_short (h : complete v s = .next t) : t.response.status ≠ .short := by
  obtain rfl := answer_eq_next_iff.1 h
  exact Status.noConfusion

theorem raise_ne_short (he : e ≠ .short) (h : raise e s = .next t) : t.response.status ≠ .short := by
  obtain rfl := answer_eq_next_iff.1 h
  exact he

/-- GeomCalc has no stream to find short (R77). -/
theorem ne_short_of_geomCalc_error {w h : Int} {d : Nat} (he : geomCalc w h d = .error e) : e ≠ .short := by
  rintro rfl
  simpa [he] using geomCalc_cases w h d

/-- Neither branch of a command's bounds check is SHORT. -/
theorem ite_ne_short {c : Prop} [Decidable c] {a b : Host.Outcome State Fault Refusal}
    (ha : a = .next t → t.response.status ≠ .short) (hb : b = .next t → t.response.status ≠ .short)
    (h : (if c then a else b) = .next t) : t.response.status ≠ .short := by
  split at h
  · exact ha h
  · exact hb h

/-- Only an instruction that reaches a stream can be answered SHORT. -/
theorem exec_ne_short (hr : ¬ i.ReadsIn) (hw : ¬ i.WritesOut) (h : exec i s = .next t) :
    t.response.status ≠ .short := by
  cases i with
  | unm16 | unm32 | skippad => simp [Instr.ReadsIn] at hr
  | mar16 | mar32 | emitpad => simp [Instr.WritesOut] at hw
  | nop | gclr => exact complete_ne_short h
  | rowrev | rowaddr | pixaddr => exact ite_ne_short complete_ne_short (raise_ne_short Status.noConfusion) h
  | geom w ht bpp =>
    change execGeom w ht bpp s = .next t at h
    unfold execGeom at h
    split at h
    · exact raise_ne_short (ne_short_of_geomCalc_error ‹_›) h
    · exact complete_ne_short h
  | rdreg sel =>
    change execRdreg sel s = .next t at h
    unfold execRdreg at h
    split at h
    · exact raise_ne_short Status.noConfusion h
    · exact ite_ne_short (raise_ne_short Status.noConfusion) complete_ne_short h

end

/-- A status other than OK comes with no byte moved (R44). -/
theorem Answers.counts_eq_zero {i : Instr} {r : Response} (h : Answers i r) (hr : r.status ≠ .ok) :
    r.inConsumed = 0 ∧ r.outCount = 0 := by
  cases h with
  | raised => exact ⟨rfl, rfl⟩
  | completed | consumed | emitted => exact absurd rfl hr

/-- Settles O39: each stream command is SHORT exactly when its transfer is not possible, and no other command is. -/
theorem shortIffTheTransferIsNotPossible : Obligations.ShortIffTheTransferIsNotPossible := by
  intro i s t h
  simp only [← InPort.canRead_eq_false_iff, ← OutPort.canWrite_eq_false_iff]
  cases i with
  | unm16 => simpa using unmarshal_short_iff (n := 2) h
  | unm32 => simpa using unmarshal_short_iff (n := 4) h
  | mar16 v => simpa using marshal_short_iff (n := 2) h
  | mar32 v => simpa using marshal_short_iff (n := 4) h
  | skippad => simpa using exec_skippad_short_iff h
  | emitpad => simpa using exec_emitpad_short_iff h
  | nop | geom | gclr | rdreg | rowrev | rowaddr | pixaddr =>
    simpa using exec_ne_short (by simp [Instr.ReadsIn]) (by simp [Instr.WritesOut]) h

/-- Settles O43: a transfer that completes moves its whole width, and only the commands that reach a stream move
bytes of it. -/
theorem commandsMoveExactlyTheirWidth : Obligations.CommandsMoveExactlyTheirWidth := by
  intro i s t h
  have ha : Answers i t.response := answers_of_exec h
  refine ⟨ha.counts_eq_zero, fun hok => ⟨?_, ?_, ?_, ?_, fun h16 h32 hpad =>
    ha.outCount_eq_zero (by simp [Instr.WritesOut, h16, h32, hpad])⟩⟩
  · split_ifs with h16 h32 hpad
    · subst h16
      exact congrArg BitVec.toNat (unmarshal_inConsumed (n := 2) h hok)
    · subst h32
      exact congrArg BitVec.toNat (unmarshal_inConsumed (n := 4) h hok)
    · subst hpad
      exact exec_skippad_inConsumed h hok
    · exact congrArg BitVec.toNat (ha.inConsumed_eq_zero (by simp [Instr.ReadsIn, h16, h32, hpad]))
  · rintro ⟨v, rfl⟩
    exact marshal_outCount (n := 2) h hok
  · rintro ⟨v, rfl⟩
    exact marshal_outCount (n := 4) h hok
  · rintro rfl
    exact exec_emitpad_outCount h hok

/-! ### The palette (R50) -/

/-- The palette's place and its entries' size as numbers. -/
theorem Regs.locatePalette_eq (r : Regs) (o : Nat) :
    r.locatePalette o =
      if 54 ≤ o ∧ o < 54 + r.palsize.toNat then
        (paletteChannelOf ((o - 54) % 4)).map fun k => ((o - 54) / 4, k)
      else none := rfl

/-- The palette bytes are the PALSIZE bytes after the header. -/
theorem Regs.locatePalette_isSome_iff {r : Regs} {o : Nat} :
    (r.locatePalette o).isSome = true ↔ 54 ≤ o ∧ o < 54 + r.palsize.toNat := by
  rw [Regs.locatePalette_eq]
  split
  · exact iff_of_true (by simp [Nat.mod_lt]) ‹_›
  · exact iff_of_false nofun ‹_›

/-- Byte `c` of entry `i` of the palette. -/
theorem Regs.locatePalette_entry {r : Regs} {i c : Nat} (hc : c < 4) (h : 4 * i + c < r.palsize.toNat) :
    r.locatePalette (54 + 4 * i + c) = (paletteChannelOf c).map fun k => (i, k) := by
  have hdiv : (54 + 4 * i + c - 54) / 4 = i := by omega
  have hmod : (54 + 4 * i + c - 54) % 4 = c := by omega
  rw [Regs.locatePalette_eq, if_pos (by omega), hdiv, hmod]

/-- Settles O49: the invariant fixes PALSIZE and DATAOFS by the depth, and the palette's layout follows from
PALSIZE. -/
theorem paletteEntriesAreBlueGreenRedReserved : Obligations.PaletteEntriesAreBlueGreenRedReserved := by
  intro r hr hg
  obtain ⟨-, -, -, -, -, -, -, hpal, hofs, -, -⟩ := hr.1 hg
  refine ⟨fun h8 => ?_, fun h8 => ?_⟩
  · rw [if_pos h8] at hpal
    refine ⟨fun i hi => ?_, fun o => ?_, by rw [Regs.fileOffset, hofs, hpal]⟩
    · have entry {c : Nat} (hc : c < 4) := r.locatePalette_entry (i := i) hc (by omega)
      exact ⟨entry (c := 0) (by decide), entry (c := 1) (by decide), entry (c := 2) (by decide),
        entry (c := 3) (by decide)⟩
    · rw [Regs.locatePalette_isSome_iff, hpal]
      omega
  · rw [if_neg h8] at hpal
    exact ⟨Regs.locatePalette_of_palsize_zero hpal, by rw [Regs.fileOffset, hofs, hpal]⟩

end Sys2Proof.Machine
end

section
/-!
PROOF. The opcode map and the reserved encodings (30_encoding.md R58, R62, R63). The decoder takes one of three ways,
one per clause of R62; from them a command decodes iff `illegalCmd` does not hold of its word, and `step` answers a
command that does not decode with ILLEGAL.
-/
namespace Sys2Proof

section
variable {op sel : BitVec 4} {opA opB : Word} {opC : Half} {cmd : BitVec 8} {c : Command}

/-- An assembled word is decoded by its two fields. -/
theorem decode_cmdWord (sel op : BitVec 4) (opA opB : Word) (opC : Half) :
    decode ⟨cmdWord sel op, opA, opB, opC⟩ = decodeFields op sel opA opB opC := by
  simp [decode]

/-! ### The three ways of the decoder, one per clause of R62 -/

theorem decodeFields_of_reservedOp (h : 13 ≤ op.toNat) :
    decodeFields op sel opA opB opC = .error (.reservedOp op) := by
  have hop : op = 0xD#4 ∨ op = 0xE#4 ∨ op = 0xF#4 := by bv_omega
  obtain rfl | rfl | rfl := hop <;> rfl

theorem decodeFields_rdreg : decodeFields 0x7#4 sel opA opB opC = decodeRdreg sel := rfl

/-- Every other operation code has one instruction, which the selector 0 selects. -/
theorem decodeFields_plain (h : op.toNat < 13) (h7 : op ≠ 0x7#4) :
    ∃ i, decodeFields op sel opA opB opC = decodePlain op sel i := by
  unfold decodeFields
  split
  case h_8 => exact absurd rfl h7
  case h_14 => simp only [imp_false] at *; bv_omega
  all_goals exact ⟨_, rfl⟩

/-! ### Which commands decode -/

/-- R62 read on the two fields: a command decodes iff its word is not ILLEGAL. -/
theorem decode_isOk_iff : (∃ i, decode c = .ok i) ↔ illegalCmd c.cmd = false := by
  rw [decode, illegalCmd]
  generalize opOf c.cmd = op, selOf c.cmd = sel
  by_cases h : 13 ≤ op.toNat
  · simp [decodeFields_of_reservedOp h, h]
  by_cases h7 : op = 0x7#4
  · simp [h7, decodeFields_rdreg, decodeRdreg_eq_ok_iff]
  · obtain ⟨i, hi⟩ : ∃ i, decodeFields op sel c.opA c.opB c.opC = decodePlain op sel i :=
      decodeFields_plain (Nat.not_le.1 h) h7
    simp [hi, h, h7, decodePlain_eq_ok_iff]

/-- `illegalCmd` in the numbers of the word's two digits. -/
theorem illegalCmd_iff : illegalCmd cmd = true ↔
    13 ≤ cmd.toNat % 16 ∨ (cmd.toNat % 16 ≠ 7 ∧ cmd.toNat / 16 ≠ 0) ∨
      (cmd.toNat % 16 = 7 ∧ 12 ≤ cmd.toNat / 16) := by
  simp [illegalCmd, ← BitVec.toNat_inj, opOf_toNat, selOf_toNat, or_assoc]

end

end Sys2Proof

namespace Sys2Proof.Machine

/-- R63, R95: a presented command that does not decode raises ILLEGAL. -/
theorem step_of_decode_error {s : State} {t : Transaction} {rest : List HostInput} {e : DecodeError}
    (hs : s.inputs = .command t :: rest) (hd : decode t.command = .error e) :
    step s = raise .illegal (s.present t rest) := by
  simp only [step, hs, hd]

theorem answeredIllegal_of_illegalCmd {cmd : BitVec 8} (h : illegalCmd cmd = true) : AnsweredIllegal cmd := by
  rintro s t rest hs rfl
  cases hd : decode t.command with
  | ok i => exact absurd (decode_isOk_iff.1 ⟨i, hd⟩) (by simp [h])
  | error e => exact (step_of_decode_error hs hd).trans (raise_eq _ _)

/-- Settles O4: the three clauses are `illegalCmd`, which says when a command decodes; `step` raises ILLEGAL when it
does not. -/
theorem illegalIffReservedEncoding : Obligations.IllegalIffReservedEncoding := by
  intro c
  rw [← illegalCmd_iff]
  refine ⟨fun h => ⟨?_, answeredIllegal_of_illegalCmd h⟩, fun h => decode_isOk_iff.2 (Bool.not_eq_true _ ▸ h)⟩
  rw [← not_exists, decode_isOk_iff, h]
  nofun

/-- Settles O1: each word of the map is assembled from its selector and operation code, for which `decodeFields` has a
row; the reserved rows are the decoder's first way. -/
theorem decoderReadsTheOpcodeMap : Obligations.DecoderReadsTheOpcodeMap := by
  intro a b c
  have row (op : BitVec 4) : decode ⟨cmdWord 0x0#4 op, a, b, c⟩ = decodeFields op 0x0#4 a b c :=
    decode_cmdWord 0x0#4 op a b c
  have rdreg (sel : BitVec 4) (h : sel.toNat < 12) : decode ⟨sel ++ 0x7#4, a, b, c⟩ = .ok (.rdreg sel) :=
    (decode_cmdWord sel 0x7#4 a b c).trans (decodeRdreg_eq_ok_iff.2 ⟨h, rfl⟩)
  have reserved (sel op : BitVec 4) (i : Instr) (h : 0xD ≤ op.toNat) : decode ⟨sel ++ op, a, b, c⟩ ≠ .ok i := by
    rw [← cmdWord, decode_cmdWord, decodeFields_of_reservedOp h]
    nofun
  exact ⟨row 0x0#4, row 0x1#4, row 0x2#4, row 0x3#4, row 0x4#4, row 0x5#4, row 0x6#4, rdreg,
    row 0x8#4, row 0x9#4, row 0xA#4, row 0xB#4, row 0xC#4, reserved⟩

end Sys2Proof.Machine
end

section
/-!
PROOF. The codec commands (40_codec.md R67 to R72). Each command is one transfer operation, and what a transfer answers
when it is possible and when it is not is said once per operation; a word's bytes are its four lanes, so `lowBytes` is
read lane by lane.
-/
namespace Sys2Proof.Machine

/-- R62 second clause: only RDREG may have a selector other than 0. -/
theorem selectorMustBeZero {op : BitVec 4} (h7 : op ≠ 0x7#4) : SelectorMustBeZero op := fun sel hsel =>
  answeredIllegal_of_illegalCmd (by simp [illegalCmd, h7, hsel])

/-! ### Each codec command as a transfer -/

section
variable (s : State)

theorem exec_unm16 : exec .unm16 s = unmarshal 2 s := rfl

theorem exec_unm32 : exec .unm32 s = unmarshal 4 s := rfl

theorem exec_mar16 (v : Half) : exec (.mar16 v) s = marshal 2 (zext32 16 v) s := rfl

theorem exec_mar32 (v : Word) : exec (.mar32 v) s = marshal 4 v s := rfl

theorem exec_skippad :
    exec .skippad s = if s.regs.valid then discard s.regs.pad.toNat s else raise .invalidArg s := rfl

theorem exec_emitpad :
    exec .emitpad s = if s.regs.valid then emitZeros s.regs.pad.toNat s else raise .invalidArg s := rfl

end

/-! ### What each transfer answers, by whether it is possible (R39, R44) -/

section
variable {n : Nat} {v : Word} {s : State}

theorem unmarshal_of_possible (h : s.inPort.inOk = true ∧ n ≤ min s.inPort.inAvail.toNat 4) :
    unmarshal n s = .next (s.respond (.consumed n (lowBytes n s.inPort.inData))) := by
  rw [unmarshal_eq, if_pos (InPort.canRead_iff.2 h), memRead]

theorem unmarshal_of_not_possible (h : ¬ (s.inPort.inOk = true ∧ n ≤ min s.inPort.inAvail.toNat 4)) :
    unmarshal n s = .next (s.respond (.raised .short)) := by
  rw [unmarshal_eq, if_neg (mt InPort.canRead_iff.1 h)]

theorem marshal_of_possible (h : s.outPort.outOk = true ∧ n ≤ min s.outPort.outSpace.toNat 4) :
    marshal n v s = .next (s.respond (.emitted n v)) := by
  rw [marshal_eq, if_pos (OutPort.canWrite_iff.2 h)]

theorem marshal_of_not_possible (h : ¬ (s.outPort.outOk = true ∧ n ≤ min s.outPort.outSpace.toNat 4)) :
    marshal n v s = .next (s.respond (.raised .short)) := by
  rw [marshal_eq, if_neg (mt OutPort.canWrite_iff.1 h)]

theorem discard_of_possible (h : n = 0 ∨ s.inPort.inOk = true ∧ n ≤ min s.inPort.inAvail.toNat 4) :
    discard n s = .next (s.respond (.consumed n 0)) := by
  rw [← InPort.canRead_iff] at h
  rw [discard_eq, if_neg (by simpa [or_iff_not_imp_left] using h)]
  rfl

theorem discard_of_not_possible (hn : n ≠ 0)
    (h : ¬ (s.inPort.inOk = true ∧ n ≤ min s.inPort.inAvail.toNat 4)) :
    discard n s = .next (s.respond (.raised .short)) := by
  rw [← InPort.canRead_iff, Bool.not_eq_true] at h
  rw [discard_eq, if_pos ⟨hn, h⟩]

theorem emitZeros_of_possible (h : n = 0 ∨ s.outPort.outOk = true ∧ n ≤ min s.outPort.outSpace.toNat 4) :
    emitZeros n s = .next (s.respond (.emitted n 0)) := by
  rw [← OutPort.canWrite_iff] at h
  rw [emitZeros_eq, if_neg (by simpa [or_iff_not_imp_left] using h)]
  rfl

theorem emitZeros_of_not_possible (hn : n ≠ 0)
    (h : ¬ (s.outPort.outOk = true ∧ n ≤ min s.outPort.outSpace.toNat 4)) :
    emitZeros n s = .next (s.respond (.raised .short)) := by
  rw [← OutPort.canWrite_iff, Bool.not_eq_true] at h
  rw [emitZeros_eq, if_pos ⟨hn, h⟩]

end

/-! ### The test of VALID before a transfer (R97) -/

section
variable {a : Host.Outcome State Fault Refusal} {s : State}

theorem needsGeometry_absent (h : s.regs.gstat = 0#1) :
    (if s.regs.valid then a else raise .invalidArg s) = .next (s.respond (.raised .invalidArg)) := by
  rw [if_neg (by simp [Regs.valid_eq_false_iff.2 h]), raise_eq]

theorem needsGeometry_loaded (h : s.regs.gstat = 1#1) : (if s.regs.valid then a else raise .invalidArg s) = a :=
  if_pos (Regs.valid_iff.2 h)

end

/-! ### Bytes and counts -/

/-- PAD 0 as a number. -/
theorem pad_eq_zero_iff {p : BitVec 2} : p = 0#2 ↔ p.toNat = 0 :=
  BitVec.toNat_inj.symm

/-- A word is its four byte lanes, lane 3 most significant (R20). -/
theorem lanes_append (v : Word) : lane v 3 ++ lane v 2 ++ lane v 1 ++ lane v 0 = v := by
  simp only [lane]
  rw [BitVec.extractLsb'_append_extractLsb'_eq_extractLsb' (by decide),
    BitVec.extractLsb'_append_extractLsb'_eq_extractLsb' (by decide),
    BitVec.extractLsb'_append_extractLsb'_eq_extractLsb' (by decide)]
  exact BitVec.extractLsb'_eq_self

/-- The low two bytes, zero-extended (R10). -/
theorem lowBytes_two (v : Word) : lowBytes 2 v = 0#16 ++ lane v 1 ++ lane v 0 := by
  rw [← lanes_append (lowBytes 2 v)]
  simp [lane_lowBytes]

theorem lowBytes_four (v : Word) : lowBytes 4 v = v := by
  rw [← lanes_append (lowBytes 4 v)]
  simp [lane_lowBytes, lanes_append]

theorem lowBytes_zero (n : Nat) : lowBytes n 0 = 0 := by
  apply BitVec.eq_of_toNat_eq
  simp [lowBytes_toNat]

theorem lane_zext32 {k : Nat} (h : k < 4) (v : Half) : lane (zext32 16 v) k = v.extractLsb' (8 * k) 8 :=
  BitVec.extractLsb'_setWidth_of_le (by omega)

/-- The two-bit PAD register on a 3-bit count. -/
theorem count3_toNat_pad (p : BitVec 2) : count3 p.toNat = 0#1 ++ p := by
  revert p; decide

/-! ### The obligations -/

/-- Settles O12: UNM16 is `unmarshal 2`, and the low two bytes are the result. -/
theorem unm16ReadsALittleEndianHalfword : Obligations.Unm16ReadsALittleEndianHalfword := by
  refine ⟨decode_cmdWord 0x0#4 0x1#4, selectorMustBeZero (by decide), fun s => ?_⟩
  rw [exec_unm16]
  refine ⟨fun h => ?_, unmarshal_of_not_possible⟩
  rw [unmarshal_of_possible h, lowBytes_two]
  rfl

/-- Settles O13: UNM32 is `unmarshal 4`, and the four lanes are the result. -/
theorem unm32ReadsALittleEndianWord : Obligations.Unm32ReadsALittleEndianWord := by
  refine ⟨decode_cmdWord 0x0#4 0x2#4, selectorMustBeZero (by decide), fun s => ?_⟩
  rw [exec_unm32]
  refine ⟨fun h => ?_, unmarshal_of_not_possible⟩
  rw [unmarshal_of_possible h, (lowBytes_four _).trans (lanes_append _).symm]
  rfl

/-- Settles O14: MAR16 is `marshal 2`, whose word `lane_lowBytes` reads lane by lane. -/
theorem mar16EmitsTwoBytesLowFirst : Obligations.Mar16EmitsTwoBytesLowFirst := by
  refine ⟨decode_cmdWord 0x0#4 0x3#4, selectorMustBeZero (by decide), fun s v => ?_⟩
  rw [exec_mar16]
  have byte {k : Nat} (hk : k < 4) :
      lane (lowBytes 2 (zext32 16 v)) k = if k < 2 then v.extractLsb' (8 * k) 8 else 0#8 := by
    rw [lane_lowBytes _ _ _ hk, lane_zext32 hk]
  exact ⟨fun h => ⟨lowBytes 2 (zext32 16 v), byte (k := 0) (by decide), byte (k := 1) (by decide),
    byte (k := 2) (by decide), byte (k := 3) (by decide), marshal_of_possible h⟩, marshal_of_not_possible⟩

/-- Settles O15: MAR32 is `marshal 4`, whose word is the operand. -/
theorem mar32EmitsFourBytesLowFirst : Obligations.Mar32EmitsFourBytesLowFirst := by
  refine ⟨decode_cmdWord 0x0#4 0x4#4, selectorMustBeZero (by decide), fun s v => ?_⟩
  rw [exec_mar32]
  refine ⟨fun h => ⟨v, rfl, rfl, rfl, rfl, ?_⟩, marshal_of_not_possible⟩
  rw [marshal_of_possible h, Response.emitted, lowBytes_four]
  rfl

/-- Settles O16: without a geometry SKIPPAD raises INVALID_ARG, and with one it is `discard` of PAD bytes. -/
theorem skippadConsumesThePadding : Obligations.SkippadConsumesThePadding := by
  refine ⟨decode_cmdWord 0x0#4 0xB#4, selectorMustBeZero (by decide), fun s => ?_⟩
  simp only [exec_skippad, ne_eq, pad_eq_zero_iff]
  refine ⟨needsGeometry_absent, fun hg hn h => ?_, fun hg h => ?_⟩
  · rw [needsGeometry_loaded hg, discard_of_not_possible hn h]
    rfl
  · rw [needsGeometry_loaded hg, discard_of_possible h, ← count3_toNat_pad]
    rfl

/-- Settles O17: without a geometry EMITPAD raises INVALID_ARG, and with one it is `emitZeros` of PAD bytes. -/
theorem emitpadEmitsZeroBytes : Obligations.EmitpadEmitsZeroBytes := by
  refine ⟨decode_cmdWord 0x0#4 0xC#4, selectorMustBeZero (by decide), fun s => ?_⟩
  simp only [exec_emitpad, ne_eq, pad_eq_zero_iff]
  refine ⟨needsGeometry_absent, fun hg hn h => ?_, fun hg h => ?_⟩
  · rw [needsGeometry_loaded hg, emitZeros_of_not_possible hn h]
    rfl
  · rw [needsGeometry_loaded hg, emitZeros_of_possible h, Response.emitted, lowBytes_zero, ← count3_toNat_pad]

end Sys2Proof.Machine
end

section
/-!
PROOF. The geometry and control commands (41_geometry.md R76 to R80). GEOM's answer is `geomCalc`'s: each of its four
cases has one lemma, the values of the last are R77's integers, and the size facts carry them into the registers. RDREG
is a read of the slot behind the test of VALID.
-/
namespace Sys2Proof.Machine

/-! ### GeomCalc, by its cases (R77) -/

section
variable {w h : Int} {d : Nat}

theorem geomCalc_of_not_positive (hwh : w ≤ 0 ∨ h ≤ 0) : geomCalc w h d = .error .invalidArg := by
  obtain ⟨-, e⟩ | ⟨hw, hh, -⟩ | ⟨hw, hh, -⟩ | ⟨hw, hh, -⟩ := geomCalc_cases w h d
  · exact e
  all_goals omega

theorem geomCalc_of_unsupported (hw : 0 < w) (hh : 0 < h) (hd : ¬ (d = 8 ∨ d = 24 ∨ d = 32)) :
    geomCalc w h d = .error .unsupported := by
  obtain ⟨hwh, -⟩ | ⟨-, -, -, e⟩ | ⟨-, -, hd', -⟩ | ⟨-, -, hd', -⟩ := geomCalc_cases w h d
  · omega
  · exact e
  all_goals exact absurd hd' hd

theorem geomCalc_of_overflow (hw : 0 < w) (hh : 0 < h) (hd : d = 8 ∨ d = 24 ∨ d = 32)
    (hsize : 0xFFFFFFFF < (geomValues w.toNat h.toNat d).filesize) : geomCalc w h d = .error .overflow := by
  obtain ⟨hwh, -⟩ | ⟨-, -, hd', -⟩ | ⟨-, -, -, -, e⟩ | ⟨-, -, -, hsize', -⟩ := geomCalc_cases w h d
  · omega
  · exact absurd hd hd'
  · exact e
  · omega

theorem geomCalc_of_fits (hw : 0 < w) (hh : 0 < h) (hd : d = 8 ∨ d = 24 ∨ d = 32)
    (hsize : (geomValues w.toNat h.toNat d).filesize ≤ 0xFFFFFFFF) :
    geomCalc w h d = .ok (geomValues w.toNat h.toNat d) := by
  obtain ⟨hwh, -⟩ | ⟨-, -, hd', -⟩ | ⟨-, -, -, hsize', -⟩ | ⟨-, -, -, -, e⟩ := geomCalc_cases w h d
  · omega
  · exact absurd hd hd'
  · omega
  · exact e

/-! ### GeomCalc's values as integers -/

theorem natCast_strideOf (n : Nat) : (strideOf n : Int) = ((n : Int) + 3) / 4 * 4 := by
  rw [strideOf_eq]
  omega

theorem natCast_palsizeOf (d : Nat) : (palsizeOf d : Int) = if d = 8 then 1024 else 0 := by
  rw [palsizeOf_eq]
  split <;> rfl

/-- The values of `geomValues` are the exact integers R77 computes from a positive width and height. -/
theorem natCast_geomValues (hw : 0 < w) (hh : 0 < h) (d : Nat) :
    let g := geomValues w.toNat h.toNat d
    let rowbytes : Int := w * ((d / 8 : Nat) : Int)
    let stride : Int := (rowbytes + 3) / 4 * 4
    let pal : Int := if d = 8 then 1024 else 0
    (g.rowbytes : Int) = rowbytes ∧ (g.stride : Int) = stride ∧ (g.pad : Int) = stride - rowbytes ∧
    (g.palsize : Int) = pal ∧ (g.dataofs : Int) = 54 + pal ∧ (g.imgsize : Int) = stride * h ∧
    (g.filesize : Int) = 54 + pal + stride * h := by
  lift w to Nat using hw.le
  lift h to Nat using hh.le
  obtain ⟨-, e2, e3, e4, e5, e6, e7, e8⟩ := geomValues_eq w h d
  simp only [Int.toNat_natCast, e2, e3, e4, e5, e6, e7, e8, Nat.cast_sub (le_strideOf _), Nat.cast_add,
    Nat.cast_mul, natCast_strideOf, natCast_palsizeOf, Nat.cast_ofNat, true_and]

end

/-! ### The registers a successful GEOM loads (R78) -/

/-- Where the file fits, every loaded register holds GeomCalc's value exactly. -/
theorem loadedRegs_toNat {m n d : Nat} (hm : 0 < m) (hn : 0 < n) (hd : d = 8 ∨ d = 24 ∨ d = 32)
    (hsize : (geomValues m n d).filesize ≤ 0xFFFFFFFF) (w h : Word) (bpp : Half) :
    let g := geomValues m n d
    let r := loadedRegs w h bpp g
    r.bypp.toNat = d / 8 ∧ r.rowbytes.toNat = g.rowbytes ∧ r.stride.toNat = g.stride ∧ r.pad.toNat = g.pad ∧
    r.palsize.toNat = g.palsize ∧ r.dataofs.toNat = g.dataofs ∧ r.imgsize.toNat = g.imgsize ∧
    r.filesize.toNat = g.filesize := by
  obtain ⟨hrow, hstride, himg, hofs, hpad, hbypp, hpal, -⟩ := geomValues_fit hm hn hd
  have narrow {k v : Nat} (hv : v < 2 ^ k) : (BitVec.ofNat k v).toNat = v := by
    rw [BitVec.toNat_ofNat, Nat.mod_eq_of_lt hv]
  exact ⟨narrow hbypp, narrow (by omega), narrow (by omega), narrow hpad, narrow hpal, narrow hofs,
    narrow (by omega), narrow (by omega)⟩

/-! ### The commands (R76 to R80) -/

section
variable {s : State}

theorem exec_nop (s : State) : exec .nop s = .next (s.respond (.completed 0)) := rfl

theorem exec_gclr (s : State) : exec .gclr s = .next ((s.withRegs Regs.reset).respond (.completed 0)) := rfl

theorem exec_geom_of_error {w h : Word} {d : Half} {e : Status}
    (hcalc : geomCalc (sint32 w) (sint32 h) d.toNat = .error e) :
    exec (.geom w h d) s = .next (s.respond (.raised e)) := by
  rw [exec, execGeom, hcalc]
  rfl

theorem exec_geom_of_ok {w h : Word} {d : Half} {g : GeomValues}
    (hcalc : geomCalc (sint32 w) (sint32 h) d.toNat = .ok g) :
    exec (.geom w h d) s =
      .next ((s.withRegs (loadedRegs w h d g)).respond (.completed (loadedRegs w h d g).stride)) := by
  rw [exec, execGeom, hcalc]
  rfl

/-- GSTAT needs no geometry (R80). -/
theorem exec_rdreg_gstat (s : State) :
    exec (.rdreg 0) s = .next (s.respond (.completed (zext32 1 s.regs.gstat))) := rfl

/-- With a geometry loaded every implemented slot is readable. -/
theorem exec_rdreg_loaded {sel : BitVec 4} {v : Word} (hg : s.regs.gstat = 1#1) (hread : s.regs.read sel = some v) :
    exec (.rdreg sel) s = .next (s.respond (.completed v)) := by
  rw [exec, execRdreg, hread]
  exact if_neg (by simp [Regs.valid_iff.2 hg])

/-- Without one, no implemented slot but GSTAT is (R97). -/
theorem exec_rdreg_absent {sel : BitVec 4} {v : Word} (hg : s.regs.gstat = 0#1) (hsel : sel ≠ 0#4)
    (hread : s.regs.read sel = some v) : exec (.rdreg sel) s = .next (s.respond (.raised .invalidArg)) := by
  rw [exec, execRdreg, hread]
  exact if_pos ⟨hsel, Regs.valid_eq_false_iff.2 hg⟩

end

/-- The slots below 12 have storage (R14). -/
theorem Regs.exists_read_eq_some (r : Regs) {sel : BitVec 4} (h : sel.toNat < 12) : ∃ v, r.read sel = some v := by
  unfold Regs.read
  split
  case h_13 => simp only [imp_false] at *; omega
  all_goals exact ⟨_, rfl⟩

/-- R62 third clause: RDREG of a slot without storage. -/
theorem answeredIllegal_rdreg {sel : BitVec 4} (h : 12 ≤ sel.toNat) : AnsweredIllegal (cmdWord sel 0x7#4) :=
  answeredIllegal_of_illegalCmd (by simp [illegalCmd, h])

/-- Zero-extension to a slot's 32 bits writes `k` zeros above the `n` used bits (R8). -/
theorem zext32_eq_append {n k : Nat} (h : k + n = 32) (v : BitVec n) : zext32 n v = (0#k ++ v).cast h := by
  apply BitVec.eq_of_toNat_eq
  have hv : v.toNat < 2 ^ 32 := Nat.lt_of_lt_of_le v.isLt (Nat.pow_le_pow_right (by decide) (by omega))
  simpa [zext32] using hv

/-! ### The obligations -/

/-- Settles O18: NOP is `complete` with result 0. -/
theorem nopDoesNothing : Obligations.NopDoesNothing :=
  ⟨decode_cmdWord 0x0#4 0x0#4, selectorMustBeZero (by decide), exec_nop⟩

/-- Settles O19: the four cases of `geomCalc` are the four clauses, and where the file fits the loaded registers hold
GeomCalc's values, which are R77's integers. -/
theorem geomLoadsTheGeometryOrRaises : Obligations.GeomLoadsTheGeometryOrRaises := by
  refine ⟨decode_cmdWord 0x0#4 0x5#4, selectorMustBeZero (by decide), fun s w h d => ?_⟩
  refine ⟨fun hwh => exec_geom_of_error (geomCalc_of_not_positive hwh),
    fun hw hh hd => exec_geom_of_error (geomCalc_of_unsupported hw hh hd),
    fun hw hh hd hsize => ?_, fun hw hh hd hsize => ?_⟩
  · obtain ⟨-, -, -, -, -, -, ifile⟩ := natCast_geomValues hw hh d.toNat
    exact exec_geom_of_error (geomCalc_of_overflow hw hh hd (by omega))
  · obtain ⟨irow, istride, ipad, ipal, iofs, iimg, ifile⟩ := natCast_geomValues hw hh d.toNat
    have hfits : (geomValues (sint32 w).toNat (sint32 h).toNat d.toNat).filesize ≤ 0xFFFFFFFF := by omega
    obtain ⟨rbypp, rrow, rstride, rpad, rpal, rofs, rimg, rfile⟩ :=
      loadedRegs_toNat (Int.lt_toNat.2 hw) (Int.lt_toNat.2 hh) hd hfits w h d
    exact ⟨_, exec_geom_of_ok (geomCalc_of_fits hw hh hd hfits), rfl, rfl, rfl, rfl, rbypp, rrow ▸ irow,
      rstride ▸ istride, rpad ▸ ipad, rpal ▸ ipal, rofs ▸ iofs, rimg ▸ iimg, rfile ▸ ifile⟩

/-- Settles O20: GCLR is `complete` on the state with the reset registers. -/
theorem gclrClearsEveryRegister : Obligations.GclrClearsEveryRegister :=
  ⟨decode_cmdWord 0x0#4 0x6#4, selectorMustBeZero (by decide), exec_gclr⟩

/-- Settles O21: each slot's read is that slot of `Regs.read`, answered as VALID allows. -/
theorem rdregReadsEachRegister : Obligations.RdregReadsEachRegister := by
  refine ⟨fun sel a b c h => (decode_cmdWord sel 0x7#4 a b c).trans (decodeRdreg_eq_ok_iff.2 ⟨h, rfl⟩),
    fun _ => answeredIllegal_rdreg, fun s => ⟨?_, fun hg sel hsel h => ?_, fun hg => ?_⟩⟩
  · rw [exec_rdreg_gstat, zext32_eq_append (k := 31) rfl]
    rfl
  · obtain ⟨v, hread⟩ := s.regs.exists_read_eq_some h
    exact exec_rdreg_absent hg hsel hread
  · have slot {sel : BitVec 4} {v : Word} : s.regs.read sel = some v →
      exec (.rdreg sel) s = .next (s.respond (.completed v)) := exec_rdreg_loaded hg
    have narrow {sel : BitVec 4} {n k : Nat} {v : BitVec n} (h : k + n = 32)
        (hread : s.regs.read sel = some (zext32 n v)) :
        exec (.rdreg sel) s = .next (s.respond (.completed ((0#k ++ v).cast h))) :=
      zext32_eq_append h v ▸ slot hread
    exact ⟨slot rfl, slot rfl, narrow (k := 16) rfl rfl, narrow (k := 29) rfl rfl, slot rfl, slot rfl,
      narrow (k := 30) rfl rfl, narrow (k := 21) rfl rfl, slot rfl, slot rfl, slot rfl⟩

end Sys2Proof.Machine
end

section
/-!
PROOF. The row and address commands (42_rows.md R82 to R85). Each is one answer behind one check. Below the bounds R82
checks, a row of a loaded geometry ends within IMGSIZE and a pixel within its row, so the offsets are exact on the
result bus (R87).
-/
namespace Sys2Proof.Machine

/-! ### Offsets of a loaded geometry (R15, R16, R87) -/

section
variable {r : Regs} {x y : Word}

theorem Regs.Loaded.rowbytes_le_stride (h : r.Loaded) : r.rowbytes.toNat ≤ r.stride.toNat := by
  obtain ⟨-, -, -, -, -, hstride, -⟩ := h
  omega

/-- A row below the height ends within the payload. -/
theorem Regs.Loaded.rowOffset_add_stride_le (h : r.Loaded) (hy : (y.toNat : Int) < sint32 r.height) :
    r.rowOffset y + r.stride.toNat ≤ r.imgsize.toNat := by
  obtain ⟨-, -, -, -, -, -, -, -, -, himg, -⟩ := h
  have hrow : (r.reversedRow y : Int) + 1 ≤ sint32 r.height := by
    rw [Regs.reversedRow_eq hy]
    omega
  zify
  calc (r.rowOffset y + r.stride.toNat : Int)
      = r.stride.toNat * (r.reversedRow y + 1) := by rw [Regs.rowOffset]; push_cast; ring
    _ ≤ r.stride.toNat * sint32 r.height := by gcongr
    _ = r.imgsize.toNat := himg.symm

/-- A pixel left of the width ends within its row's meaningful bytes. -/
theorem Regs.Loaded.pixelRowByte_add_bypp_le (h : r.Loaded) (hx : (x.toNat : Int) < sint32 r.width) :
    r.pixelRowByte x.toNat + r.bypp.toNat ≤ r.rowbytes.toNat := by
  obtain ⟨-, -, -, -, hrow, -⟩ := h
  zify
  calc (r.pixelRowByte x.toNat + r.bypp.toNat : Int)
      = (x.toNat + 1) * r.bypp.toNat := by rw [Regs.pixelRowByte]; push_cast; ring
    _ ≤ sint32 r.width * r.bypp.toNat := by gcongr; omega
    _ = r.rowbytes.toNat := hrow.symm

theorem Regs.pixelOffset_eq (r : Regs) (x y : Word) : r.pixelOffset x y = r.rowOffset y + r.pixelRowByte x.toNat := rfl

/-- An in-bounds pixel ends within the payload. -/
theorem Regs.Loaded.pixelOffset_add_bypp_le (h : r.Loaded) (hx : (x.toNat : Int) < sint32 r.width)
    (hy : (y.toNat : Int) < sint32 r.height) : r.pixelOffset x y + r.bypp.toNat ≤ r.imgsize.toNat := by
  have hrow := h.rowOffset_add_stride_le hy
  have hcol := h.pixelRowByte_add_bypp_le hx
  have hpad := h.rowbytes_le_stride
  rw [Regs.pixelOffset_eq]
  omega

/-- The payload offset of a row below the height as R84's integer. -/
theorem Regs.natCast_rowOffset (hy : (y.toNat : Int) < sint32 r.height) :
    (r.rowOffset y : Int) = (sint32 r.height - 1 - y.toNat) * r.stride.toNat := by
  rw [Regs.rowOffset, Nat.cast_mul, Regs.reversedRow_eq hy]

/-- The payload offset of an in-bounds pixel as R85's integer. -/
theorem Regs.natCast_pixelOffset (hy : (y.toNat : Int) < sint32 r.height) :
    (r.pixelOffset x y : Int) =
      (sint32 r.height - 1 - y.toNat) * r.stride.toNat + x.toNat * r.bypp.toNat := by
  rw [Regs.pixelOffset_eq, Regs.pixelRowByte, Nat.cast_add, Nat.cast_mul, Regs.natCast_rowOffset hy]

end

/-! ### The commands, by their check (R82) -/

section
variable {s : State} {x y : Word}

theorem exec_rowrev_of_inRange (h : s.regs.gstat = 1#1 ∧ (y.toNat : Int) < sint32 s.regs.height) :
    exec (.rowrev y) s = .next (s.respond (.completed (word32 (s.regs.reversedRow y)))) :=
  if_pos (Regs.rowOk_iff.2 h)

theorem exec_rowrev_of_not_inRange (h : ¬ (s.regs.gstat = 1#1 ∧ (y.toNat : Int) < sint32 s.regs.height)) :
    exec (.rowrev y) s = .next (s.respond (.raised .invalidArg)) :=
  if_neg (mt Regs.rowOk_iff.1 h)

theorem exec_rowaddr_of_inRange (h : s.regs.gstat = 1#1 ∧ (y.toNat : Int) < sint32 s.regs.height) :
    exec (.rowaddr y) s = .next (s.respond (.completed (word32 (s.regs.rowOffset y)))) :=
  if_pos (Regs.rowOk_iff.2 h)

theorem exec_rowaddr_of_not_inRange (h : ¬ (s.regs.gstat = 1#1 ∧ (y.toNat : Int) < sint32 s.regs.height)) :
    exec (.rowaddr y) s = .next (s.respond (.raised .invalidArg)) :=
  if_neg (mt Regs.rowOk_iff.1 h)

theorem exec_pixaddr_of_inRange (h : s.regs.gstat = 1#1 ∧ (x.toNat : Int) < sint32 s.regs.width ∧
      (y.toNat : Int) < sint32 s.regs.height) :
    exec (.pixaddr x y) s = .next (s.respond (.completed (word32 (s.regs.pixelOffset x y)))) :=
  if_pos (Regs.pixOk_iff.2 h)

theorem exec_pixaddr_of_not_inRange (h : ¬ (s.regs.gstat = 1#1 ∧ (x.toNat : Int) < sint32 s.regs.width ∧
      (y.toNat : Int) < sint32 s.regs.height)) :
    exec (.pixaddr x y) s = .next (s.respond (.raised .invalidArg)) :=
  if_neg (mt Regs.pixOk_iff.1 h)

end

/-! ### The obligations -/

/-- Settles O24: a row's offset is at most IMGSIZE, a 32-bit register, so the result bus holds it exactly. -/
theorem rowaddrGivesTheRowOffset : Obligations.RowaddrGivesTheRowOffset := by
  refine ⟨decode_cmdWord 0x0#4 0x9#4, selectorMustBeZero (by decide), fun s y => ?_⟩
  refine ⟨fun hcons hok => ?_, exec_rowaddr_of_not_inRange⟩
  obtain ⟨hg, hy⟩ := hok
  have hend : s.regs.rowOffset y + s.regs.stride.toNat ≤ s.regs.imgsize.toNat :=
    (hcons.1 hg).rowOffset_add_stride_le hy
  have hfits : s.regs.rowOffset y < 2 ^ 32 := by omega
  refine ⟨word32 (s.regs.rowOffset y), ?_, rfl, exec_rowaddr_of_inRange ⟨hg, hy⟩⟩
  rw [word32_toNat hfits, Regs.natCast_rowOffset hy]

/-- Settles O25: a pixel's offset is at most IMGSIZE, a 32-bit register, so the result bus holds it exactly. -/
theorem pixaddrGivesThePixelOffset : Obligations.PixaddrGivesThePixelOffset := by
  refine ⟨decode_cmdWord 0x0#4 0xA#4, selectorMustBeZero (by decide), ?channels, rfl, fun s x y => ?_⟩
  case channels =>
    rintro bpp (rfl | rfl) <;> exact ⟨rfl, rfl, rfl⟩
  refine ⟨fun hcons hok => ?_, exec_pixaddr_of_not_inRange⟩
  obtain ⟨hg, hx, hy⟩ := hok
  have hend : s.regs.pixelOffset x y + s.regs.bypp.toNat ≤ s.regs.imgsize.toNat :=
    (hcons.1 hg).pixelOffset_add_bypp_le hx hy
  have hfits : s.regs.pixelOffset x y < 2 ^ 32 := by omega
  refine ⟨word32 (s.regs.pixelOffset x y), ?_, exec_pixaddr_of_inRange ⟨hg, hx, hy⟩⟩
  rw [word32_toNat hfits, Regs.natCast_pixelOffset hy]

/-- Settles O23: below the height the reversed row is the integer `Height - 1 - y`, which always fits the result
bus. -/
theorem rowrevReversesTheRowIndex : Obligations.RowrevReversesTheRowIndex := by
  refine ⟨decode_cmdWord 0x0#4 0x8#4, selectorMustBeZero (by decide), fun s y => ?_⟩
  refine ⟨fun hok => ?_, exec_rowrev_of_not_inRange⟩
  refine ⟨word32 (s.regs.reversedRow y), ?_, exec_rowrev_of_inRange hok⟩
  rw [word32_toNat (s.regs.reversedRow_lt y), Regs.reversedRow_eq hok.2]

end Sys2Proof.Machine
end

section
/-!
PROOF. The statuses (60_exceptions.md R91, R92, R97, R100). What a command answers is said once for all thirteen: the
registers and the port lines fix it, and a command that writes the registers completes. R91 and R92 are read off that;
R97 and R100 are each refusal's own condition.
-/
namespace Sys2Proof.Machine

/-! ### The context of a command (R91) -/

/-- `s` with another past and future: another response still driven, other responses given, other inputs to come. The
registers and the port lines stay. -/
def State.inContext (s : State) (driven : Response) (inputs : List HostInput) (given : List Response) : State :=
  { s with response := driven, inputs := inputs, history := given }

/-- Two states with the same registers present a transaction alike, each in its own context. -/
theorem State.present_inContext {s s' : State} (hregs : s.regs = s'.regs) (t : Transaction)
    (rest rest' : List HostInput) :
    (s.present t rest).inContext s'.response rest' s'.history = s'.present t rest' := by
  rw [State.present, State.inContext, hregs]
  rfl

/-! ### What a command answers -/

/-- In every context of `s`, `a` leaves the registers `r` and is answered with `p`. -/
def AnswersWith (s : State) (a : State → Host.Outcome State Fault Refusal) (r : Regs) (p : Response) : Prop :=
  ∀ driven inputs given, a (s.inContext driven inputs given) =
    .next (((s.inContext driven inputs given).withRegs r).respond p)

/-- `a` only reads the registers: there is one response it is answered with in every context of `s`. -/
def OnlyResponds (s : State) (a : State → Host.Outcome State Fault Refusal) : Prop :=
  ∃ p, AnswersWith s a s.regs p

section
variable {s t : State} {a b x : State → Host.Outcome State Fault Refusal} {r : Regs} {p : Response}

/-- The context of `s` itself. -/
theorem AnswersWith.eq (h : AnswersWith s a r p) : a s = .next ((s.withRegs r).respond p) :=
  h s.response s.inputs s.history

theorem onlyResponds_raise (e : Status) : OnlyResponds s (raise e) :=
  ⟨_, fun _ _ _ => raise_eq e _⟩

theorem onlyResponds_complete (v : Word) : OnlyResponds s (complete v) :=
  ⟨_, fun _ _ _ => complete_eq v _⟩

theorem onlyResponds_unmarshal (n : Nat) : OnlyResponds s (unmarshal n) :=
  ⟨if s.inPort.canRead n then .consumed n (memRead n s) else .raised .short,
    fun _ _ _ => unmarshal_eq n _⟩

theorem onlyResponds_marshal (n : Nat) (v : Word) : OnlyResponds s (marshal n v) :=
  ⟨if s.outPort.canWrite n then .emitted n v else .raised .short, fun _ _ _ => marshal_eq n v _⟩

theorem onlyResponds_discard (n : Nat) : OnlyResponds s (discard n) :=
  ⟨if n ≠ 0 ∧ s.inPort.canRead n = false then .raised .short else .consumed n 0,
    fun _ _ _ => discard_eq n _⟩

theorem onlyResponds_emitZeros (n : Nat) : OnlyResponds s (emitZeros n) :=
  ⟨if n ≠ 0 ∧ s.outPort.canWrite n = false then .raised .short else .emitted n 0,
    fun _ _ _ => emitZeros_eq n _⟩

/-- A command behind a check `c` of the registers, which are the same in every context. -/
theorem onlyResponds_of_check (c : Prop) [Decidable c] (ha : OnlyResponds s a) (hb : OnlyResponds s b)
    (hx : ∀ driven inputs given, x (s.inContext driven inputs given) =
      if c then a (s.inContext driven inputs given) else b (s.inContext driven inputs given)) :
    OnlyResponds s x := by
  by_cases hc : c
  · obtain ⟨p, hp⟩ := ha
    exact ⟨p, fun _ _ _ => (hx _ _ _).trans ((if_pos hc).trans (hp _ _ _))⟩
  · obtain ⟨p, hp⟩ := hb
    exact ⟨p, fun _ _ _ => (hx _ _ _).trans ((if_neg hc).trans (hp _ _ _))⟩

theorem exec_rdreg_of_read {sel : BitVec 4} {v : Word} (hread : s.regs.read sel = some v) :
    exec (.rdreg sel) s = if sel ≠ 0#4 ∧ s.regs.valid = false then raise .invalidArg s else complete v s := by
  rw [exec, execRdreg, hread]

theorem exec_rdreg_of_read_none {sel : BitVec 4} (hread : s.regs.read sel = none) :
    exec (.rdreg sel) s = raise .illegal s := by
  rw [exec, execRdreg, hread]

theorem onlyResponds_exec_rdreg (sel : BitVec 4) : OnlyResponds s (exec (.rdreg sel)) := by
  cases hread : s.regs.read sel with
  | none => exact ⟨.raised .illegal, fun _ _ _ => exec_rdreg_of_read_none hread⟩
  | some v =>
    exact onlyResponds_of_check (sel ≠ 0#4 ∧ s.regs.valid = false) (onlyResponds_raise .invalidArg)
      (onlyResponds_complete v) fun _ _ _ => exec_rdreg_of_read hread

/-- The frame of the commands that write no register (R14), with what fixes their answer (R91). -/
theorem onlyResponds_exec {i : Instr} (hgeom : ∀ w h d, i ≠ .geom w h d) (hgclr : i ≠ .gclr) :
    OnlyResponds s (exec i) := by
  cases i with
  | geom w h d => exact absurd rfl (hgeom w h d)
  | gclr => exact absurd rfl hgclr
  | nop => exact onlyResponds_complete 0
  | unm16 | unm32 => exact onlyResponds_unmarshal _
  | mar16 | mar32 => exact onlyResponds_marshal _ _
  | rdreg sel => exact onlyResponds_exec_rdreg sel
  | rowrev y =>
    exact onlyResponds_of_check (s.regs.rowOk y) (onlyResponds_complete (word32 (s.regs.reversedRow y)))
      (onlyResponds_raise .invalidArg) fun _ _ _ => rfl
  | rowaddr y =>
    exact onlyResponds_of_check (s.regs.rowOk y) (onlyResponds_complete (word32 (s.regs.rowOffset y)))
      (onlyResponds_raise .invalidArg) fun _ _ _ => rfl
  | pixaddr x y =>
    exact onlyResponds_of_check (s.regs.pixOk x y) (onlyResponds_complete (word32 (s.regs.pixelOffset x y)))
      (onlyResponds_raise .invalidArg) fun _ _ _ => rfl
  | skippad =>
    exact onlyResponds_of_check s.regs.valid (onlyResponds_discard s.regs.pad.toNat)
      (onlyResponds_raise .invalidArg) fun _ _ _ => exec_skippad _
  | emitpad =>
    exact onlyResponds_of_check s.regs.valid (onlyResponds_emitZeros s.regs.pad.toNat)
      (onlyResponds_raise .invalidArg) fun _ _ _ => exec_emitpad _

/-- A status other than OK leaves the registers as they were, where the command keeps them anyway. -/
theorem OnlyResponds.answersWith (h : OnlyResponds s a) :
    ∃ r p, AnswersWith s a r p ∧ (p.status ≠ .ok → r = s.regs) := by
  obtain ⟨p, hp⟩ := h
  exact ⟨s.regs, p, hp, fun _ => rfl⟩

/-- What `exec` answers: the registers and the port lines fix it (R91), and a status other than OK leaves the registers
as they were (R92). -/
theorem exec_answersWith (i : Instr) (s : State) :
    ∃ r p, AnswersWith s (exec i) r p ∧ (p.status ≠ .ok → r = s.regs) := by
  cases i with
  | gclr => exact ⟨Regs.reset, .completed 0, fun _ _ _ => exec_gclr _, fun hne => absurd rfl hne⟩
  | geom w h d =>
    cases hcalc : geomCalc (sint32 w) (sint32 h) d.toNat with
    | error e => exact ⟨s.regs, .raised e, fun _ _ _ => exec_geom_of_error hcalc, fun _ => rfl⟩
    | ok g => exact ⟨_, _, fun _ _ _ => exec_geom_of_ok hcalc, fun hne => absurd rfl hne⟩
  | nop | unm16 | unm32 | mar16 | mar32 | rdreg | rowrev | rowaddr | pixaddr | skippad | emitpad =>
    exact (onlyResponds_exec (by simp) (by simp)).answersWith

/-- R63: a presented command that decodes is executed on the presented ports. -/
theorem step_of_decode_ok {tr : Transaction} {rest : List HostInput} {i : Instr}
    (hs : s.inputs = .command tr :: rest) (hd : decode tr.command = .ok i) :
    step s = exec i (s.present tr rest) := by
  simp only [step, hs, hd]

/-- Every response with a status other than OK is a raised one: zeros beside its status (R92). -/
theorem Answers.eq_raised {i : Instr} (h : Answers i p) (hne : p.status ≠ .ok) : p = .raised p.status := by
  cases h with
  | raised => rfl
  | completed | consumed | emitted => exact absurd rfl hne

end

/-- Settles O37: the two presentations differ in their context alone, and in every context `exec` gives one answer. -/
theorem statusDoesNotDependOnEarlierStatuses : Obligations.StatusDoesNotDependOnEarlierStatuses := by
  intro s s' u t rest rest' hs hs' hregs hstep
  obtain ⟨e, hd, hu⟩ | ⟨i, hd, hu⟩ := step_command_cases hs hstep
  · obtain rfl := answer_eq_next_iff.1 hu
    exact ⟨_, step_of_decode_error hs' hd, rfl, hregs.symm⟩
  · obtain ⟨r, p, hp, -⟩ := exec_answersWith i (s.present t rest)
    cases hp.eq.symm.trans hu
    refine ⟨((s'.present t rest').withRegs r).respond p, (step_of_decode_ok hs' hd).trans ?_, rfl, rfl⟩
    rw [← State.present_inContext hregs t rest rest']
    exact hp _ _ _

/-- Settles O38: an ILLEGAL command only raises; any other answer that is not OK keeps the registers and is a raised
response. -/
theorem raisedStatusHasNoEffect : Obligations.RaisedStatusHasNoEffect := by
  intro s u t rest hs hstep hne
  obtain ⟨e, hd, hu⟩ | ⟨i, hd, hu⟩ := step_command_cases hs hstep
  · obtain rfl := answer_eq_next_iff.1 hu
    exact ⟨rfl, rfl, rfl, rfl, rfl⟩
  · have hraised : u.response = .raised u.response.status := (answers_of_exec hu).eq_raised hne
    obtain ⟨r, p, hp, hkept⟩ := exec_answersWith i (s.present t rest)
    cases hp.eq.symm.trans hu
    refine ⟨hkept hne, ?_⟩
    rw [hraised]
    exact ⟨rfl, rfl, rfl, rfl⟩

/-! ### Statuses that do not rest on the registers (R97) -/

/-- Two outcomes whose answers have one status. -/
theorem exists_next_status_eq {t u u' : State} {o o' : Host.Outcome State Fault Refusal} (h : o = .next t)
    (ho : o = .next u) (ho' : o' = .next u') (hst : u'.response.status = u.response.status) :
    ∃ t', o' = .next t' ∧ t'.response.status = t.response.status := by
  cases ho.symm.trans h
  exact ⟨u', ho', hst⟩

/-- Settles O40: six commands test VALID first; the answer of each of the others is the same operation whatever the
registers hold, and its check is of the ports or of the operands. -/
theorem absentGeometryRaisesInvalidArg : Obligations.AbsentGeometryRaisesInvalidArg := by
  refine ⟨fun s hg => ⟨fun sel h1 h11 => ?_, fun y => ?_, fun y => ?_, fun x y => ?_, ?_, ?_⟩,
    fun i s t r hi h => ?_⟩
  · have hsel : sel ≠ 0#4 := by rintro rfl; simp at h1
    obtain ⟨v, hread⟩ := s.regs.exists_read_eq_some (Nat.lt_succ_of_le h11)
    exact exec_rdreg_absent hg hsel hread
  · exact exec_rowrev_of_not_inRange (by simp [hg])
  · exact exec_rowaddr_of_not_inRange (by simp [hg])
  · exact exec_pixaddr_of_not_inRange (by simp [hg])
  · exact needsGeometry_absent hg
  · exact needsGeometry_absent hg
  · obtain rfl | rfl | rfl | ⟨w, ht, d, rfl⟩ | rfl | rfl | ⟨v, rfl⟩ | ⟨v, rfl⟩ := hi
    · exact exists_next_status_eq h (exec_rdreg_gstat _) (exec_rdreg_gstat _) rfl
    · exact exists_next_status_eq h (exec_nop _) (exec_nop _) rfl
    · exact exists_next_status_eq h (exec_gclr _) (exec_gclr _) rfl
    · cases hcalc : geomCalc (sint32 w) (sint32 ht) d.toNat with
      | error e => exact exists_next_status_eq h (exec_geom_of_error hcalc) (exec_geom_of_error hcalc) rfl
      | ok g => exact exists_next_status_eq h (exec_geom_of_ok hcalc) (exec_geom_of_ok hcalc) rfl
    · exact exists_next_status_eq h (unmarshal_eq 2 _) (unmarshal_eq 2 _) rfl
    · exact exists_next_status_eq h (unmarshal_eq 4 _) (unmarshal_eq 4 _) rfl
    · exact exists_next_status_eq h (marshal_eq 2 _ _) (marshal_eq 2 _ _) rfl
    · exact exists_next_status_eq h (marshal_eq 4 v _) (marshal_eq 4 v _) rfl

/-- Settles O41: each refusal's own condition stands alone, so no later status's condition is asked. -/
theorem statusesAreReportedInTheirOrder : Obligations.StatusesAreReportedInTheirOrder := by
  refine ⟨fun c hc => answeredIllegal_of_illegalCmd ?_, fun s =>
    ⟨fun w h d hwh => exec_geom_of_error (geomCalc_of_not_positive hwh),
      fun w h d hw hh hd => exec_geom_of_error (geomCalc_of_unsupported hw hh hd),
      fun hg => ⟨needsGeometry_absent hg, needsGeometry_absent hg⟩,
      fun x y => ⟨fun hfails => ?_, fun hfails => exec_pixaddr_of_not_inRange ?_⟩⟩⟩
  · rw [← not_exists, decode_isOk_iff] at hc
    exact Bool.not_eq_false _ ▸ hc
  · have hrow : ¬ (s.regs.gstat = 1#1 ∧ (y.toNat : Int) < sint32 s.regs.height) := fun ⟨hg, hy⟩ =>
      hfails.elim (by simp [hg]) hy.not_ge
    exact ⟨exec_rowrev_of_not_inRange hrow, exec_rowaddr_of_not_inRange hrow⟩
  · exact fun ⟨hg, hx, hy⟩ => hfails.elim (by simp [hg]) (Or.elim · hx.not_ge hy.not_ge)

end Sys2Proof.Machine
end

section
/-!
PROOF. Reset (70_reset_and_hazards.md R105). An asserted reset is one step; the slots that have storage, and so a reset
value, are the twelve below slot 12.
-/
namespace Sys2Proof.Machine

/-- Slots 12 to 15 have no storage (R14). -/
theorem Regs.read_eq_none (r : Regs) {sel : BitVec 4} (h : 12 ≤ sel.toNat) : r.read sel = none := by
  unfold Regs.read
  split
  case h_13 => rfl
  all_goals omega

theorem Regs.read_isSome (r : Regs) (sel : BitVec 4) : (r.read sel).isSome = decide (sel.toNat < 12) := by
  obtain h | h := Nat.lt_or_ge sel.toNat 12
  · obtain ⟨v, hread⟩ := r.exists_read_eq_some h
    rw [hread, decide_eq_true h, Option.isSome_some]
  · rw [r.read_eq_none h, decide_eq_false h.not_gt, Option.isSome_none]

theorem step_of_reset {s : State} {rest : List HostInput} (hs : s.inputs = .reset :: rest) :
    step s = .next (s.assertReset rest) := by
  simp only [step, hs]

/-- Settles O7: the start state, an asserted reset and GCLR all leave `Regs.reset`, whose twelve slots are 0. -/
theorem resetClearsEveryRegister : Obligations.ResetClearsEveryRegister :=
  ⟨rfl, Regs.read_isSome, fun s rest hs =>
    ⟨s.assertReset rest, _, step_of_reset hs, s.assertReset_regs rest, exec_gclr s, rfl⟩⟩

end Sys2Proof.Machine
end

section
/-!
PROOF. The encoder and the decoder are inverse on the well-formed instructions (30_encoding.md R57 to R65), and the
count of R64. Both directions go through the two fields of the command word.
-/
namespace Sys2Proof

/-- MAR16's operand on its 32-bit bus is read back as it was written (R59). -/
theorem extractLsb'_setWidth_half (v : Half) : (v.setWidth 32).extractLsb' 0 16 = v := by
  rw [BitVec.extractLsb'_setWidth_of_le (by decide), BitVec.extractLsb'_eq_self]

/-- Fields that decode are those of a well-formed instruction, whose command word they make. -/
theorem wellFormed_and_encode_cmd_of_decodeFields {op sel : BitVec 4} {opA opB : Word} {opC : Half} {i : Instr}
    (h : decodeFields op sel opA opB opC = .ok i) : i.wellFormed = true ∧ (encode i).cmd = cmdWord sel op := by
  unfold decodeFields at h
  split at h
  case h_8 =>
    obtain ⟨hsel, rfl⟩ := decodeRdreg_eq_ok_iff.1 h
    exact ⟨decide_eq_true hsel, rfl⟩
  case h_14 => cases h
  all_goals
    obtain ⟨rfl, rfl⟩ := decodePlain_eq_ok_iff.1 h
    exact ⟨rfl, rfl⟩

/-- Settles O2: an encoded word is decoded by its two fields, for which `decodeFields` has the instruction's row. -/
theorem decodeOfEncodeIsTheInstruction : Obligations.DecodeOfEncodeIsTheInstruction := by
  intro i hi
  cases i with
  | mar16 v =>
    exact (decode_cmdWord _ _ _ _ _).trans
      (congrArg (fun half => Except.ok (Instr.mar16 half)) (extractLsb'_setWidth_half v))
  | rdreg sel =>
    exact (decode_cmdWord _ _ _ _ _).trans (decodeRdreg_eq_ok_iff.2 ⟨of_decide_eq_true hi, rfl⟩)
  | nop | unm16 | unm32 | mar32 | geom | gclr | rowrev | rowaddr | pixaddr | skippad | emitpad =>
    exact decode_cmdWord _ _ _ _ _

/-- Settles O3: the fields of a command that decodes make its instruction's word, and a command's word is its fields. -/
theorem decodedInstructionKeepsItsWord : Obligations.DecodedInstructionKeepsItsWord := by
  intro c i h
  rw [← cmdWord_selOf_opOf c.cmd]
  exact wellFormed_and_encode_cmd_of_decodeFields h

/-- Settles O5, by running the decoder on each of the 256 words. -/
theorem legalCommandWordsAreTwentyFour : Obligations.LegalCommandWordsAreTwentyFour := by
  unfold Obligations.LegalCommandWordsAreTwentyFour
  decide

end Sys2Proof
end

section
/-!
PROOF. The step and the register invariant (10_state.md R14 to R18; 70_reset_and_hazards.md R105 to R115). A presented
command is answered with one response, on registers that `exec_regs` names: those it found, those of reset, or those a
successful GEOM loads. The invariant holds of each, and the laws of R81 are read off the loaded registers.
-/
namespace Sys2Proof.Machine

/-! ### The frame of a command and of a step -/

section
variable {i : Instr} {s t : State} {tr : Transaction} {rest : List HostInput}

/-- A command changes the registers, the response port and the responses given, and nothing else. -/
theorem exec_frame (h : exec i s = .next t) : t = (s.withRegs t.regs).respond t.response := by
  obtain ⟨r, p, hp, -⟩ := exec_answersWith i s
  cases hp.eq.symm.trans h
  rfl

/-- R14: only GEOM and GCLR write the registers. -/
theorem exec_keeps_regs (hgeom : ∀ w h d, i ≠ .geom w h d) (hgclr : i ≠ .gclr) (h : exec i s = .next t) :
    t.regs = s.regs := by
  obtain ⟨p, hp⟩ := onlyResponds_exec (s := s) hgeom hgclr
  cases hp.eq.symm.trans h
  rfl

/-- R114: a presented command, legal or not, is answered with one response. -/
theorem exists_step_command (hs : s.inputs = .command tr :: rest) :
    ∃ r p, step s = .next (((s.present tr rest).withRegs r).respond p) := by
  cases hd : decode tr.command with
  | error e => exact ⟨s.regs, .raised .illegal, (step_of_decode_error hs hd).trans (raise_eq _ _)⟩
  | ok i =>
    obtain ⟨r, p, hp, -⟩ := exec_answersWith i (s.present tr rest)
    exact ⟨r, p, (step_of_decode_ok hs hd).trans hp.eq⟩

end

/-! ### A successful GEOM (R77, R78) -/

section
variable {w h : Word} {d : Half} {s t : State}

/-- The registers a GEOM of positive size and supported depth loads are consistent, where the file fits (R15 to R17). -/
theorem loadedRegs_loaded (hw : 0 < sint32 w) (hh : 0 < sint32 h) (hd : d.toNat = 8 ∨ d.toNat = 24 ∨ d.toNat = 32)
    (hsize : (geomValues (sint32 w).toNat (sint32 h).toNat d.toNat).filesize ≤ 0xFFFFFFFF) :
    (loadedRegs w h d (geomValues (sint32 w).toNat (sint32 h).toNat d.toNat)).Loaded := by
  obtain ⟨rbypp, rrow, rstride, rpad, rpal, rofs, rimg, rfile⟩ :=
    loadedRegs_toNat (Int.lt_toNat.2 hw) (Int.lt_toNat.2 hh) hd hsize w h d
  obtain ⟨-, grow, gstride, gpad, gpal, gofs, gimg, gfile⟩ :=
    geomValues_eq (sint32 w).toNat (sint32 h).toNat d.toNat
  refine ⟨hw, hh, hd, rbypp, ?_, ?_, ?_, ?_, ?_, ?_, ?_⟩
  · rw [rrow, rbypp, grow, Nat.cast_mul, Int.toNat_of_nonneg hw.le]
    rfl
  · rw [rstride, rrow, gstride, grow, strideOf_eq]
  · rw [rpad, rstride, rrow, gpad, gstride, grow]
  · rw [rpal, gpal, palsizeOf_eq]
    rfl
  · rw [rofs, rpal, gofs, gpal]
  · rw [rimg, rstride, gimg, gstride, Nat.cast_mul, Int.toNat_of_nonneg hh.le]
    rfl
  · rw [rfile, rofs, rimg, gfile, gofs, gimg]

/-- What GEOM can do: raise one of its three statuses, or load a geometry. -/
theorem exec_geom_cases (ht : exec (.geom w h d) s = .next t) :
    (∃ e, (e = .invalidArg ∨ e = .unsupported ∨ e = .overflow) ∧ t = s.respond (.raised e)) ∨
    (∃ r : Regs, r.Loaded ∧ r.gstat = 1#1 ∧ t = (s.withRegs r).respond (.completed r.stride)) := by
  obtain ⟨-, hcalc⟩ | ⟨-, -, -, hcalc⟩ | ⟨-, -, -, -, hcalc⟩ | ⟨hw, hh, hd, hsize, hcalc⟩ :=
    geomCalc_cases (sint32 w) (sint32 h) d.toNat
  case inr.inr.inr =>
    cases (exec_geom_of_ok hcalc).symm.trans ht
    exact .inr ⟨_, loadedRegs_loaded hw hh hd hsize, rfl, rfl⟩
  all_goals
    cases (exec_geom_of_error hcalc).symm.trans ht
    exact .inl ⟨_, by decide, rfl⟩

end

/-! ### The invariant -/

theorem Regs.reset_consistent : Regs.reset.Consistent := by decide

theorem Regs.Loaded.consistent {r : Regs} (h : r.Loaded) (hg : r.gstat = 1#1) : r.Consistent :=
  ⟨fun _ => h, fun h0 => absurd (hg.symm.trans h0) (by decide)⟩

/-- Every command keeps the invariant. -/
theorem exec_keeps_consistent {i : Instr} {s t : State} (hs : s.regs.Consistent) (h : exec i s = .next t) :
    t.regs.Consistent := by
  cases i with
  | geom w ht d =>
    obtain ⟨e, -, rfl⟩ | ⟨r, hr, hg, rfl⟩ := exec_geom_cases h
    · exact hs
    · exact hr.consistent hg
  | gclr =>
    cases (exec_gclr s).symm.trans h
    exact Regs.reset_consistent
  | nop | unm16 | unm32 | mar16 | mar32 | rdreg | rowrev | rowaddr | pixaddr | skippad | emitpad =>
    exact (exec_keeps_regs (by simp) (by simp) h).symm ▸ hs

/-! ### The laws of a loaded geometry (R81) -/

section
variable {r : Regs}

theorem Regs.Loaded.four_dvd_stride (h : r.Loaded) : 4 ∣ r.stride.toNat := by
  obtain ⟨-, -, -, -, -, hstride, -⟩ := h
  exact hstride ▸ Nat.dvd_mul_left 4 _

theorem Regs.Loaded.stride_le (h : r.Loaded) : r.stride.toNat ≤ r.rowbytes.toNat + 3 := by
  obtain ⟨-, -, -, -, -, hstride, -⟩ := h
  omega

theorem Regs.Loaded.rowbytes_add_pad (h : r.Loaded) : r.rowbytes.toNat + r.pad.toNat = r.stride.toNat := by
  have hle := h.rowbytes_le_stride
  obtain ⟨-, -, -, -, -, -, hpad, -⟩ := h
  omega

theorem Regs.Loaded.imgsize_eq (h : r.Loaded) : r.imgsize.toNat = r.stride.toNat * r.H := by
  obtain ⟨-, hh, -, -, -, -, -, -, -, himg, -⟩ := h
  zify
  rw [himg, Regs.H, Int.toNat_of_nonneg hh.le]

theorem Regs.Loaded.dataofs_mod_four (h : r.Loaded) : r.dataofs.toNat % 4 = 2 := by
  obtain ⟨-, -, -, -, -, -, -, hpal, hofs, -⟩ := h
  split at hpal <;> omega

theorem Regs.Loaded.pad_eq_zero_iff (h : r.Loaded) : r.pad = 0#2 ↔ r.rowbytes.toNat % 4 = 0 := by
  obtain ⟨-, -, -, -, -, hstride, hpad, -⟩ := h
  rw [Machine.pad_eq_zero_iff]
  omega

end

/-! ### The obligations -/

/-- Settles O9: each of these inputs has an arm of its own in `step`. -/
theorem stepStopsWhereTheSpecHasNoStep : Obligations.StepStopsWhereTheSpecHasNoStep :=
  fun _ => ⟨fun hs => by simp only [step, hs], fun _ _ hs => by simp only [step, hs],
    fun _ _ _ hs => by simp only [step, hs]⟩

/-- Settles O48: a command keeps the invariant, an ILLEGAL one keeps the registers, and reset clears them. -/
theorem everyStepKeepsRegistersConsistent : Obligations.EveryStepKeepsRegistersConsistent := by
  intro s t hcons hstep
  obtain ⟨hnone, hduring, hoverlap⟩ := stepStopsWhereTheSpecHasNoStep s
  cases hs : s.inputs with
  | nil => cases (hnone hs).symm.trans hstep
  | cons input rest =>
    cases input with
    | command tr =>
      obtain ⟨e, -, ht⟩ | ⟨i, -, ht⟩ := step_command_cases hs hstep
      · obtain rfl := answer_eq_next_iff.1 ht
        exact hcons
      · exact exec_keeps_consistent (s := s.present tr rest) hcons ht
    | reset =>
      cases (step_of_reset hs).symm.trans hstep
      exact Regs.reset_consistent
    | resetDuring tr => cases (hduring tr rest hs).symm.trans hstep
    | overlap tr tr' => cases (hoverlap tr tr' rest hs).symm.trans hstep

/-- Settles O47: both leave `Regs.reset`. -/
theorem resetRegistersAreConsistent : Obligations.ResetRegistersAreConsistent :=
  ⟨Regs.reset_consistent, fun _ _ => Regs.reset_consistent⟩

/-- Settles O42: a command is answered on its own state, with other registers only for GEOM and GCLR. -/
theorem onlyGeomAndGclrWriteRegisters : Obligations.OnlyGeomAndGclrWriteRegisters :=
  fun _ _ _ h => ⟨exec_frame h, fun hgeom hgclr => exec_keeps_regs hgeom hgclr h⟩

/-- Settles O10: every presented command has its response. -/
theorem everyPresentedCommandIsAnswered : Obligations.EveryPresentedCommandIsAnswered := by
  intro s t rest hs
  obtain ⟨r, p, hstep⟩ := exists_step_command hs
  exact ⟨_, hstep, rfl, rfl⟩

/-- Settles O11: the one response a step gives is the newest of those R115 observes. -/
theorem observedBytesGrowByTheResponse : Obligations.ObservedBytesGrowByTheResponse := by
  intro s u t rest hs hstep
  obtain ⟨r, p, hp⟩ := exists_step_command hs
  cases hp.symm.trans hstep
  exact ⟨State.respond_bytesConsumed _ p, State.respond_bytesEmitted _ p⟩

/-- Settles O6. -/
theorem stepRunsTheDecodedCommand : Obligations.StepRunsTheDecodedCommand :=
  fun _ _ _ _ hs hd => step_of_decode_ok hs hd

/-- Settles O8: an asserted reset drives the idle response and adds none to the responses given. -/
theorem resetLeavesAnIdleResponse : Obligations.ResetLeavesAnIdleResponse :=
  ⟨rfl, rfl, fun s rest hs => ⟨_, step_of_reset hs, rfl, rfl, s.assertReset_bytesConsumed rest,
    s.assertReset_bytesEmitted rest⟩⟩

/-- Settles O22: a GEOM answered OK has loaded a geometry. -/
theorem geomStrideAndPadLaws : Obligations.GeomStrideAndPadLaws := by
  intro s t w h d ht hok
  obtain ⟨e, he, rfl⟩ | ⟨r, hr, -, rfl⟩ := exec_geom_cases ht
  · obtain rfl | rfl | rfl := he <;> cases hok
  · exact ⟨Nat.mod_eq_zero_of_dvd hr.four_dvd_stride, hr.rowbytes_le_stride, hr.stride_le, hr.pad_eq_zero_iff,
      Nat.mod_eq_zero_of_dvd (hr.imgsize_eq ▸ hr.four_dvd_stride.mul_right r.H), hr.dataofs_mod_four⟩

end Sys2Proof.Machine
end

section
/-!
PROOF. The laws of the rows and pixels (42_rows.md R86 to R89; 20_memory.md R42). A payload offset is a byte of a row: a
row offset plus a number below the stride, in one way. `Regs.locate` finds the row and the byte again, so the range and
the separation of pixels are facts about one row.
-/
namespace Sys2Proof.Machine

/-! ### Rows (R86) -/

section
variable {r : Regs} {p : Nat}

/-- ROWREV's index is the other index of the row (R83, R86). -/
theorem Regs.reversedRow_eq_otherRow (r : Regs) (y : Word) : r.reversedRow y = r.otherRow y.toNat := by
  unfold Regs.reversedRow Regs.otherRow unsigned
  omega

theorem Regs.otherRow_lt (h : p < r.H) : r.otherRow p < r.H := by
  unfold Regs.otherRow Regs.H at *
  omega

theorem Regs.otherRow_otherRow (h : p < r.H) : r.otherRow (r.otherRow p) = p := by
  unfold Regs.otherRow Regs.H at *
  omega

/-- Every row of the payload is some logical row's. -/
theorem Regs.exists_reversedRow_eq (h : p < r.H) : ∃ y : Word, y.toNat < r.H ∧ r.reversedRow y = p := by
  have hy : r.otherRow p < r.H := Regs.otherRow_lt h
  have hH : r.H < 2 ^ 32 := by
    have := sint32_lt r.height
    unfold Regs.H
    omega
  have hword : (word32 (r.otherRow p)).toNat = r.otherRow p := word32_toNat (hy.trans hH)
  refine ⟨word32 (r.otherRow p), hword.symm ▸ hy, ?_⟩
  rw [Regs.reversedRow_eq_otherRow, hword, Regs.otherRow_otherRow h]

end

/-! ### The bytes of a row (R51, R89) -/

section
variable {r : Regs} {x y : Word}

/-- The row and the byte of an offset are the ones it was made from. -/
theorem Regs.rowOffset_add_div (r : Regs) (y : Word) {b : Nat} (hb : b < r.stride.toNat) :
    (r.rowOffset y + b) / r.stride.toNat = r.reversedRow y := by
  rw [Regs.rowOffset, Nat.mul_comm, Nat.mul_add_div (Nat.zero_lt_of_lt hb), Nat.div_eq_of_lt hb, Nat.add_zero]

theorem Regs.rowOffset_add_mod (r : Regs) (y : Word) {b : Nat} (hb : b < r.stride.toNat) :
    (r.rowOffset y + b) % r.stride.toNat = b := by
  rw [Regs.rowOffset, Nat.mul_add_mod', Nat.mod_eq_of_lt hb]

/-- The inverse map on byte `b` of row `y`. -/
theorem Regs.locate_rowByte (hy : y.toNat < r.H) {b : Nat} (hb : b < r.stride.toNat) :
    r.locate (r.rowOffset y + b) =
      if r.rowbytes.toNat ≤ b then .padding y.toNat b
      else .pixel (b / r.bypp.toNat) y.toNat (b % r.bypp.toNat) := by
  rw [Regs.locate, r.rowOffset_add_div y hb, r.rowOffset_add_mod y hb, Regs.reversedRow_eq_otherRow,
    Regs.otherRow_otherRow hy]

/-- Every payload offset is a byte of a row. -/
theorem Regs.Loaded.exists_rowByte (h : r.Loaded) {o : Nat} (ho : o < r.imgsize.toNat) :
    ∃ (y : Word) (b : Nat), y.toNat < r.H ∧ b < r.stride.toNat ∧ o = r.rowOffset y + b := by
  rw [h.imgsize_eq] at ho
  have hpos : 0 < r.stride.toNat := Nat.pos_of_ne_zero fun h0 => by simp [h0] at ho
  obtain ⟨y, hy, hrow⟩ := Regs.exists_reversedRow_eq (r := r) (Nat.div_lt_of_lt_mul ho)
  exact ⟨y, o % r.stride.toNat, hy, Nat.mod_lt _ hpos, by rw [Regs.rowOffset, hrow, Nat.div_add_mod']⟩

/-- Byte `k` of an in-bounds pixel is byte `pixelRowByte + k` of its row, below the padding. -/
theorem Regs.Loaded.pixelByte_lt (h : r.Loaded) (hx : (x.toNat : Int) < sint32 r.width) {k : Nat}
    (hk : k < r.bypp.toNat) : r.pixelRowByte x.toNat + k < r.rowbytes.toNat := by
  have := h.pixelRowByte_add_bypp_le hx
  omega

/-- The inverse map on byte `k` of an in-bounds pixel (R89). -/
theorem Regs.Loaded.locate_pixelByte (h : r.Loaded) (hx : (x.toNat : Int) < sint32 r.width)
    (hy : (y.toNat : Int) < sint32 r.height) {k : Nat} (hk : k < r.bypp.toNat) :
    r.locate (r.pixelOffset x y + k) = .pixel x.toNat y.toNat k := by
  have hb : r.pixelRowByte x.toNat + k < r.rowbytes.toNat := h.pixelByte_lt hx hk
  rw [Regs.pixelOffset_eq, Nat.add_assoc,
    Regs.locate_rowByte (Int.lt_toNat.2 hy) (hb.trans_le h.rowbytes_le_stride), if_neg hb.not_ge,
    Regs.pixelRowByte, Nat.mul_add_mod', Nat.mod_eq_of_lt hk, Nat.mul_comm,
    Nat.mul_add_div (Nat.zero_lt_of_lt hk), Nat.div_eq_of_lt hk, Nat.add_zero]

/-- A byte below the padding belongs to a pixel left of the width. -/
theorem Regs.Loaded.rowByte_div_lt (h : r.Loaded) {b : Nat} (hb : b < r.rowbytes.toNat) :
    ((b / r.bypp.toNat : Nat) : Int) < sint32 r.width ∧ 0 < r.bypp.toNat := by
  obtain ⟨hw, -, -, -, hrow, -⟩ := h
  have hW : b < r.bypp.toNat * r.W := by
    zify
    rw [Regs.W, Int.toNat_of_nonneg hw.le, mul_comm, ← hrow]
    exact_mod_cast hb
  exact ⟨Int.lt_toNat.1 (Nat.div_lt_of_lt_mul hW), Nat.pos_of_ne_zero fun h0 => by simp [h0] at hW⟩

end

/-! ### What ROWADDR and PIXADDR answer where the invariant holds (R84, R85, R87) -/

section
variable {s t : State} {x y : Word}

/-- A row offset fits the result bus (R87). -/
theorem Regs.Consistent.rowOffset_lt {r : Regs} (h : r.Consistent) (hg : r.gstat = 1#1)
    (hy : (y.toNat : Int) < sint32 r.height) : r.rowOffset y < 2 ^ 32 := by
  have := (h.1 hg).rowOffset_add_stride_le hy
  omega

theorem exec_rowaddr_result (hs : s.regs.Consistent) (hg : s.regs.gstat = 1#1)
    (hy : (y.toNat : Int) < sint32 s.regs.height) :
    ∃ t, exec (.rowaddr y) s = .next t ∧ t.response.status = .ok ∧
      t.response.result.toNat = s.regs.rowOffset y := by
  exact ⟨_, exec_rowaddr_of_inRange ⟨hg, hy⟩, rfl, word32_toNat (hs.rowOffset_lt hg hy)⟩

theorem exec_pixaddr_result (hs : s.regs.Consistent) (hg : s.regs.gstat = 1#1)
    (hx : (x.toNat : Int) < sint32 s.regs.width) (hy : (y.toNat : Int) < sint32 s.regs.height) :
    ∃ t, exec (.pixaddr x y) s = .next t ∧ t.response.status = .ok ∧
      t.response.result.toNat = s.regs.pixelOffset x y := by
  have hend := (hs.1 hg).pixelOffset_add_bypp_le hx hy
  exact ⟨_, exec_pixaddr_of_inRange ⟨hg, hx, hy⟩, rfl, word32_toNat (by omega)⟩

/-- A ROWADDR answered OK names a row of a loaded geometry. -/
theorem rowaddr_ok_cases (hs : s.regs.Consistent) (h : exec (.rowaddr y) s = .next t)
    (hok : t.response.status = .ok) :
    s.regs.Loaded ∧ (y.toNat : Int) < sint32 s.regs.height ∧
      t.response.result.toNat = s.regs.rowOffset y := by
  by_cases hin : s.regs.gstat = 1#1 ∧ (y.toNat : Int) < sint32 s.regs.height
  · obtain ⟨u, hu, -, hres⟩ := exec_rowaddr_result hs hin.1 hin.2
    cases hu.symm.trans h
    exact ⟨hs.1 hin.1, hin.2, hres⟩
  · cases (exec_rowaddr_of_not_inRange hin).symm.trans h
    cases hok

/-- A PIXADDR answered OK names a pixel of a loaded geometry. -/
theorem pixaddr_ok_cases (hs : s.regs.Consistent) (h : exec (.pixaddr x y) s = .next t)
    (hok : t.response.status = .ok) :
    s.regs.Loaded ∧ (x.toNat : Int) < sint32 s.regs.width ∧ (y.toNat : Int) < sint32 s.regs.height ∧
      t.response.result.toNat = s.regs.pixelOffset x y := by
  by_cases hin : s.regs.gstat = 1#1 ∧ (x.toNat : Int) < sint32 s.regs.width ∧
      (y.toNat : Int) < sint32 s.regs.height
  · obtain ⟨hg, hx, hy⟩ := hin
    obtain ⟨u, hu, -, hres⟩ := exec_pixaddr_result hs hg hx hy
    cases hu.symm.trans h
    exact ⟨hs.1 hg, hx, hy, hres⟩
  · cases (exec_pixaddr_of_not_inRange hin).symm.trans h
    cases hok

end

/-! ### The obligations -/

/-- Settles O26: the other index of a row below the height is below the height again, and its other index is the row. -/
theorem rowrevIsItsOwnInverse : Obligations.RowrevIsItsOwnInverse := by
  intro s y hs hg hy
  have hyH : y.toNat < s.regs.H := Int.lt_toNat.2 hy
  have hrev : (word32 (s.regs.reversedRow y)).toNat = s.regs.otherRow y.toNat :=
    (word32_toNat (s.regs.reversedRow_lt y)).trans (s.regs.reversedRow_eq_otherRow y)
  have hrevH : ((word32 (s.regs.reversedRow y)).toNat : Int) < sint32 s.regs.height :=
    Int.lt_toNat.1 (hrev ▸ Regs.otherRow_lt hyH)
  have hback : word32 (s.regs.reversedRow (word32 (s.regs.reversedRow y))) = y := by
    rw [Regs.reversedRow_eq_otherRow, hrev, Regs.otherRow_otherRow hyH]
    exact (BitVec.ofNat_toNat 32 y).trans (BitVec.setWidth_eq y)
  obtain ⟨hx, -⟩ : s.regs.Loaded := hs.1 hg
  have hpix : s.regs.pixelOffset 0#32 y = s.regs.rowOffset y := by simp [Regs.pixelOffset_eq, Regs.pixelRowByte]
  refine ⟨_, _, _, _, exec_rowrev_of_inRange ⟨hg, hy⟩, exec_rowrev_of_inRange ⟨hg, hrevH⟩, rfl, hback,
    exec_rowaddr_of_inRange ⟨hg, hy⟩, ?_, exec_pixaddr_of_inRange ⟨hg, hx, hy⟩, ?_⟩
  · exact (word32_toNat (hs.rowOffset_lt hg hy)).trans
      (congrArg (· * s.regs.stride.toNat) (word32_toNat (s.regs.reversedRow_lt y)).symm)
  · exact congrArg (fun o => Response.completed (word32 o)) hpix

/-- Settles O27: the pixel's bytes are bytes of its row below the padding. -/
theorem pixelLiesInsideThePayload : Obligations.PixelLiesInsideThePayload := by
  intro s t x y hs h hok
  obtain ⟨hl, hx, hy, hres⟩ := pixaddr_ok_cases hs h hok
  rw [hres]
  refine ⟨hl.pixelOffset_add_bypp_le hx hy, fun k hk => ?_⟩
  have hb : s.regs.pixelRowByte x.toNat + k < s.regs.rowbytes.toNat := hl.pixelByte_lt hx hk
  rwa [Regs.pixelOffset_eq, Nat.add_assoc, Regs.rowOffset_add_mod _ _ (hb.trans_le hl.rowbytes_le_stride)]

/-- Settles O29: on the bytes of a row `Regs.locate` is an explicit case distinction, and the payload has no other
bytes. -/
theorem inverseMapAgreesWithPixaddr : Obligations.InverseMapAgreesWithPixaddr := by
  intro s hs hg
  have hl : s.regs.Loaded := hs.1 hg
  refine ⟨fun t x y k h hok hk => ?_, fun o x y c ho hloc => ?_, fun o y b ho hloc => ?_⟩
  · obtain ⟨-, hx, hy, hres⟩ := pixaddr_ok_cases hs h hok
    rw [hres, hl.locate_pixelByte hx hy hk]
  · obtain ⟨y', b, hy, hb, rfl⟩ := hl.exists_rowByte ho
    rw [Regs.locate_rowByte hy hb] at hloc
    split at hloc
    · cases hloc
    · cases hloc
      obtain ⟨hx, hpos⟩ := hl.rowByte_div_lt (Nat.not_le.1 ‹_›)
      have hword : (BitVec.ofNat 32 (b / s.regs.bypp.toNat)).toNat = b / s.regs.bypp.toNat :=
        word32_toNat (by have := sint32_lt s.regs.width; omega)
      obtain ⟨t, ht, hok, hres⟩ := exec_pixaddr_result hs hg (hword.symm ▸ hx) (Int.lt_toNat.1 hy)
      rw [BitVec.ofNat_toNat, BitVec.setWidth_eq]
      refine ⟨Nat.mod_lt _ hpos, t, ht, hok, ?_⟩
      rw [hres, Regs.pixelOffset_eq, Regs.pixelRowByte, hword, Nat.add_assoc, Nat.div_add_mod']
  · obtain ⟨y', b', hy, hb, rfl⟩ := hl.exists_rowByte ho
    rw [Regs.locate_rowByte hy hb] at hloc
    split at hloc
    · cases hloc
      obtain ⟨t, ht, hok, hres⟩ := exec_rowaddr_result hs hg (Int.lt_toNat.1 hy)
      rw [BitVec.ofNat_toNat, BitVec.setWidth_eq]
      exact ⟨‹_›, hb, t, ht, hok, by rw [hres]⟩
    · cases hloc

/-- Settles O28: a byte that two pixels share is mapped back to both, so they are one. -/
theorem distinctPixelsHaveDisjointBytes : Obligations.DistinctPixelsHaveDisjointBytes := by
  intro s t u x y x' y' hs ht htok hu huok hne
  obtain ⟨hl, hx, hy, hres⟩ := pixaddr_ok_cases hs ht htok
  obtain ⟨-, hx', hy', hres'⟩ := pixaddr_ok_cases hs hu huok
  rw [hres, hres']
  by_contra hmeet
  obtain ⟨k, k', hk, hk', hsame⟩ : ∃ k k', k < s.regs.bypp.toNat ∧ k' < s.regs.bypp.toNat ∧
      s.regs.pixelOffset x y + k = s.regs.pixelOffset x' y' + k' :=
    ⟨s.regs.pixelOffset x' y' - s.regs.pixelOffset x y, s.regs.pixelOffset x y - s.regs.pixelOffset x' y',
      by omega, by omega, by omega⟩
  have hpixel := hl.locate_pixelByte hx' hy' hk'
  rw [← hsame, hl.locate_pixelByte hx hy hk] at hpixel
  injection hpixel with hxx hyy
  exact hne (by rw [BitVec.eq_of_toNat_eq hxx, BitVec.eq_of_toNat_eq hyy])

/-- Settles O31: a row offset is a multiple of the stride, and the payload starts at 2 mod 4. -/
theorem rowsAreFourAlignedInThePayload : Obligations.RowsAreFourAlignedInThePayload := by
  intro s t y hs h hok
  obtain ⟨hl, -, hres⟩ := rowaddr_ok_cases hs h hok
  have hrow : 4 ∣ s.regs.rowOffset y := hl.four_dvd_stride.mul_left _
  have hofs := hl.dataofs_mod_four
  rw [hres, Regs.fileOffset]
  omega

/-- Settles O30, by running the two commands: the geometry is loaded whatever the state before. -/
theorem topLeftPixelIsInTheLastStoredRow : Obligations.TopLeftPixelIsInTheLastStoredRow := by
  intro s
  have hin : let r := loadedRegs 2#32 2#32 24#16 (geomValues 2 2 24)
      r.gstat = 1#1 ∧ ((0#32).toNat : Int) < sint32 r.width ∧ ((0#32).toNat : Int) < sint32 r.height := by
    decide
  exact ⟨_, _, exec_geom_of_ok (g := geomValues 2 2 24) rfl, rfl, exec_pixaddr_of_inRange hin, rfl, rfl, rfl, rfl⟩

end Sys2Proof.Machine
end

section
/-!
PROOF. The laws of the codec (40_codec.md R73, R74; 20_memory.md R40) and the streams (20_memory.md R38, R45). A
transfer answered OK was possible, and its response holds the lanes it moved: `lowBytes` of a word is its first lanes,
and `outBytes` lists them. Every law is then one about lanes.
-/
namespace Sys2Proof.Machine

/-! ### Lanes and bytes -/

section
variable {n : Nat} {v w : Word}

/-- A word is determined by its lanes. -/
theorem word_eq_of_lanes (h : ∀ k < 4, lane v k = lane w k) : v = w := by
  rw [← lanes_append v, ← lanes_append w, h 0 (by decide), h 1 (by decide), h 2 (by decide), h 3 (by decide)]

/-- The low bytes of a word depend on those lanes alone. -/
theorem lowBytes_congr (h : ∀ k < n, lane v k = lane w k) : lowBytes n v = lowBytes n w := by
  refine word_eq_of_lanes fun k hk => ?_
  rw [lane_lowBytes n k v hk, lane_lowBytes n k w hk]
  split
  · exact h k ‹_›
  · rfl

theorem lowBytes_two_zext32 (v : Half) : lowBytes 2 (zext32 16 v) = zext32 16 v := by
  apply BitVec.eq_of_toNat_eq
  have hv : (zext32 16 v).toNat = v.toNat := BitVec.toNat_setWidth_of_le (by decide)
  rw [lowBytes_toNat, hv, Nat.mod_eq_of_lt v.isLt]

theorem lowBytes_lowBytes (n : Nat) (v : Word) : lowBytes n (lowBytes n v) = lowBytes n v := by
  apply BitVec.eq_of_toNat_eq
  simp [lowBytes_toNat]

/-- A lane as a number. -/
theorem lane_toNat (v : Word) (k : Nat) : (lane v k).toNat = v.toNat / 2 ^ (8 * k) % 256 := by
  rw [lane, BitVec.extractLsb'_toNat, Nat.shiftRight_eq_div_pow]

/-- A byte of a half of a word is a byte of the word. -/
theorem byte_of_half {k : Nat} (hk : k + 8 ≤ 16) (start : Nat) (v : Word) :
    (v.extractLsb' start 16).extractLsb' k 8 = v.extractLsb' (start + k) 8 := by
  ext i hi
  simp only [BitVec.getElem_extractLsb', BitVec.getLsbD_extractLsb', show k + i < 16 by omega, decide_true,
    Bool.true_and, Nat.add_assoc]

/-- The bytes an emitting response gives are the word's first lanes. -/
theorem outBytes_emitted (hn : n ≤ 4) (v : Word) :
    (Response.emitted n v).outBytes = (List.range n).map (lane v) := by
  rw [Response.outBytes, Response.emitted_outCount, Response.emitted_outData, count3_toNat n (by omega)]
  refine List.map_congr_left fun k hk => ?_
  have hkn : k < n := List.mem_range.1 hk
  rw [lane_lowBytes n k v (hkn.trans_le hn), if_pos hkn]

end

/-! ### Transfers answered OK -/

section
variable {n : Nat} {v : Word} {s t u q : State}

theorem unmarshal_ok (h : unmarshal n s = .next t) (hok : t.response.status = .ok) :
    n ≤ s.inPort.avail ∧ t.response = .consumed n (lowBytes n s.inPort.inData) := by
  by_cases hp : s.inPort.inOk = true ∧ n ≤ min s.inPort.inAvail.toNat 4
  · cases (unmarshal_of_possible hp).symm.trans h
    exact ⟨hp.2, rfl⟩
  · cases (unmarshal_of_not_possible hp).symm.trans h
    cases hok

theorem marshal_ok (h : marshal n v s = .next t) (hok : t.response.status = .ok) :
    t.response = .emitted n v := by
  by_cases hp : s.outPort.outOk = true ∧ n ≤ min s.outPort.outSpace.toNat 4
  · cases (marshal_of_possible hp).symm.trans h
    rfl
  · cases (marshal_of_not_possible hp).symm.trans h
    cases hok

theorem discard_ok (h : discard n s = .next t) (hok : t.response.status = .ok) :
    n ≤ s.inPort.avail ∧ t.response = .consumed n 0 := by
  by_cases hp : n = 0 ∨ s.inPort.inOk = true ∧ n ≤ min s.inPort.inAvail.toNat 4
  · cases (discard_of_possible hp).symm.trans h
    exact ⟨hp.elim (fun h0 => h0 ▸ Nat.zero_le _) And.right, rfl⟩
  · rw [not_or] at hp
    cases (discard_of_not_possible hp.1 hp.2).symm.trans h
    cases hok

theorem emitZeros_ok (h : emitZeros n s = .next t) (hok : t.response.status = .ok) :
    t.response = .emitted n 0 := by
  by_cases hp : n = 0 ∨ s.outPort.outOk = true ∧ n ≤ min s.outPort.outSpace.toNat 4
  · cases (emitZeros_of_possible hp).symm.trans h
    rfl
  · rw [not_or] at hp
    cases (emitZeros_of_not_possible hp.1 hp.2).symm.trans h
    cases hok

theorem marshal_outBytes (hn : n ≤ 4) (h : marshal n v s = .next t) (hok : t.response.status = .ok) :
    t.response.outBytes = (List.range n).map (lane v) := by
  rw [marshal_ok h hok, outBytes_emitted hn]

/-- R73: the bytes a marshal emitted, presented again, unmarshal to the value's low bytes. -/
theorem unmarshal_of_marshal (hn : n ≤ 4) (h : marshal n v s = .next t) (hok : t.response.status = .ok)
    (hin : q.inPort.inOk = true) (hav : n ≤ q.inPort.inAvail.toNat)
    (hlanes : ∀ k < t.response.outCount.toNat, lane q.inPort.inData k = lane t.response.outData k) :
    unmarshal n q = .next (q.respond (.consumed n (lowBytes n v))) := by
  rw [marshal_ok h hok, Response.emitted_outCount, Response.emitted_outData, count3_toNat n (by omega)] at hlanes
  rw [unmarshal_of_possible ⟨hin, le_min hav hn⟩, lowBytes_congr hlanes, lowBytes_lowBytes]

/-- R73, the other way: a marshal of a word whose low bytes were unmarshalled emits the lanes read. -/
theorem marshal_of_unmarshal (hn : n ≤ 4) (h : unmarshal n s = .next t) (hok : t.response.status = .ok)
    (hv : v = t.response.result) (hu : marshal n v q = .next u) (huok : u.response.status = .ok) :
    u.response.outBytes = (List.range n).map (lane s.inPort.inData) := by
  obtain ⟨-, hres⟩ := unmarshal_ok h hok
  rw [marshal_outBytes hn hu huok, hv, hres, Response.consumed_result, ← outBytes_emitted hn, ← outBytes_emitted hn,
    Response.emitted, Response.emitted, lowBytes_lowBytes]

end

/-! ### The codec commands answered OK -/

section
variable {s t : State}

theorem exec_unm16_ok (h : exec .unm16 s = .next t) (hok : t.response.status = .ok) :
    t.response = .consumed 2 (lowBytes 2 s.inPort.inData) :=
  (unmarshal_ok h hok).2

theorem exec_unm32_ok (h : exec .unm32 s = .next t) (hok : t.response.status = .ok) :
    t.response = .consumed 4 s.inPort.inData :=
  (unmarshal_ok h hok).2.trans (congrArg _ (lowBytes_four _))

theorem exec_mar16_outBytes {v : Half} (h : exec (.mar16 v) s = .next t) (hok : t.response.status = .ok) :
    t.response.outBytes = [v.extractLsb' 0 8, v.extractLsb' 8 8] := by
  rw [marshal_outBytes (n := 2) (by decide) h hok]
  exact congrArg₂ (fun a b => [a, b]) (lane_zext32 (k := 0) (by decide) v) (lane_zext32 (k := 1) (by decide) v)

theorem exec_mar32_outBytes {v : Word} (h : exec (.mar32 v) s = .next t) (hok : t.response.status = .ok) :
    t.response.outBytes = [lane v 0, lane v 1, lane v 2, lane v 3] :=
  marshal_outBytes (n := 4) (by decide) h hok

theorem exec_emitpad_ok (h : exec .emitpad s = .next t) (hok : t.response.status = .ok) :
    t.response = .emitted s.regs.pad.toNat 0 := by
  obtain ⟨-, hd⟩ | ⟨-, hst⟩ := exec_emitpad_cases h
  · exact emitZeros_ok hd hok
  · cases hok.symm.trans hst

theorem exec_skippad_ok (h : exec .skippad s = .next t) (hok : t.response.status = .ok) :
    s.regs.pad.toNat ≤ s.inPort.avail ∧ t.response = .consumed s.regs.pad.toNat 0 := by
  obtain ⟨-, hd⟩ | ⟨-, hst⟩ := exec_skippad_cases h
  · exact discard_ok hd hok
  · cases hok.symm.trans hst

end

/-- The zero bytes of a pad. -/
theorem outBytes_emitted_zero {n : Nat} (hn : n ≤ 4) :
    (Response.emitted n 0).outBytes = List.replicate n 0#8 := by
  rw [outBytes_emitted hn]
  refine List.eq_replicate_iff.2 ⟨by simp, fun b hb => ?_⟩
  obtain ⟨k, -, rfl⟩ := List.mem_map.1 hb
  simp [lane]

/-! ### The host's side (R111) -/

section
variable {st : Streams} {n : Nat} {v : Word}

/-- The lanes a host offers are its stream's next bytes. -/
theorem Streams.Offers.take_eq {p : InPort} (h : st.Offers p) (hn : n ≤ p.avail) :
    st.input.take n = (List.range n).map (lane p.inData) := by
  refine List.ext_getElem? fun k => ?_
  by_cases hk : k < n
  · have hk4 : k < 4 := hk.trans_le (hn.trans (saturated_le _))
    rw [List.getElem?_take_of_lt hk, h ⟨k, hk4⟩ (hk.trans_le hn)]
    simp [hk]
  · simp [hk]

theorem Streams.absorb_consumed (st : Streams) (hn : n ≤ 4) (v : Word) :
    st.absorb (.consumed n v) = ⟨st.input.drop n, st.output⟩ := by
  rw [Streams.absorb, Response.consumed_inConsumed, count3_toNat n (by omega)]
  simp [Response.outBytes]

theorem Streams.absorb_of_emitted (st : Streams) {r : Response} (h : r = .emitted n v) {bs : List Byte}
    (hbs : r.outBytes = bs) : st.absorb r = ⟨st.input, st.output ++ bs⟩ := by
  subst h hbs
  simp [Streams.absorb]

end

/-! ### The obligations -/

/-- Settles O32: each trip is one of marshal and unmarshal, whichever comes first, for the two widths. -/
theorem marshalThenUnmarshalIsTheValue : Obligations.MarshalThenUnmarshalIsTheValue := by
  refine ⟨fun s t q v h hok hin hav hlanes => ?_, fun s t q v h hok hin hav hlanes => ?_,
    fun s t q u h hok hu huok => ?_, fun s t q u h hok hu huok => ?_⟩
  · exact ⟨_, unmarshal_of_marshal (n := 2) (by decide) h hok hin hav hlanes, rfl, lowBytes_two_zext32 v⟩
  · exact ⟨_, unmarshal_of_marshal (n := 4) (by decide) h hok hin hav hlanes, rfl, lowBytes_four v⟩
  · have hv : zext32 16 (t.response.result.extractLsb' 0 16) = t.response.result := by
      rw [exec_unm16_ok h hok]
      exact lowBytes_lowBytes 2 _
    exact marshal_of_unmarshal (n := 2) (by decide) h hok hv hu huok
  · exact marshal_of_unmarshal (n := 4) (by decide) h hok rfl hu huok

/-- Settles O33: read, both sides are the same four lanes as numbers; written, the same four lanes as bytes. -/
theorem halfwordsAndWordsAgree : Obligations.HalfwordsAndWordsAgree := by
  refine ⟨fun s q t u v h0 h1 ht htok hu huok hv hvok => ?_, fun s q r t u v w ht htok hu huok hv hvok => ?_⟩
  · have hlow := congrArg BitVec.toNat h0
    have hhigh := congrArg BitVec.toNat h1
    simp only [lane_toNat] at hlow hhigh
    have := s.inPort.inData.isLt
    rw [exec_unm16_ok ht htok, exec_unm16_ok hu huok, exec_unm32_ok hv hvok]
    simp only [Response.consumed_result, lowBytes_toNat]
    omega
  · rw [exec_mar16_outBytes ht htok, exec_mar16_outBytes hu huok, exec_mar32_outBytes hv hvok]
    simp [lane, byte_of_half]

/-- Settles O34: both commands move PAD bytes, and the invariant makes PAD the rest of the stride. -/
theorem padCommandsCompleteTheRow : Obligations.PadCommandsCompleteTheRow := by
  intro s t hs
  have row (hg : s.regs.gstat = 1#1) : s.regs.rowbytes.toNat + s.regs.pad.toNat = s.regs.stride.toNat ∧
      s.regs.H * (s.regs.rowbytes.toNat + s.regs.pad.toNat) = s.regs.imgsize.toNat := by
    have hl : s.regs.Loaded := hs.1 hg
    exact ⟨hl.rowbytes_add_pad, by rw [hl.rowbytes_add_pad, hl.imgsize_eq, Nat.mul_comm]⟩
  refine ⟨fun h hok => ?_, fun h hok => ?_⟩
  · rw [exec_skippad_inConsumed h hok]
    obtain ⟨hg, -⟩ | ⟨-, hst⟩ := exec_skippad_cases h
    · exact row hg
    · cases hok.symm.trans hst
  · rw [exec_emitpad_ok h hok, outBytes_emitted_zero (pad_toNat_le _), List.length_replicate]
    obtain ⟨hg, -⟩ | ⟨-, hst⟩ := exec_emitpad_cases h
    · exact row hg
    · cases hok.symm.trans hst

/-- Settles O35: what a command consumes is the head of its stream by the host's duty, and what it emits is
`outBytes`. -/
theorem transfersMoveTheStreamsNextBytes : Obligations.TransfersMoveTheStreamsNextBytes := by
  intro s t st
  refine ⟨fun hoffers h hok => ?_, fun hoffers h hok => ?_, fun hoffers h hok => ?_, fun v h hok => ?_,
    fun v h hok => ?_, fun h hok => ?_⟩
  · have htake := hoffers.take_eq (unmarshal_ok (n := 2) h hok).1
    refine ⟨lane s.inPort.inData 0, lane s.inPort.inData 1, st.input.drop 2, ?_, ?_, ?_⟩
    · rw [← st.input.take_append_drop 2, htake]
      rfl
    · rw [exec_unm16_ok h hok, Response.consumed_result, lowBytes_two]
    · rw [exec_unm16_ok h hok, st.absorb_consumed (by decide)]
  · have htake := hoffers.take_eq (unmarshal_ok (n := 4) h hok).1
    refine ⟨lane s.inPort.inData 0, lane s.inPort.inData 1, lane s.inPort.inData 2, lane s.inPort.inData 3,
      st.input.drop 4, ?_, ?_, ?_⟩
    · rw [← st.input.take_append_drop 4, htake]
      rfl
    · rw [exec_unm32_ok h hok, Response.consumed_result, lanes_append]
    · rw [exec_unm32_ok h hok, st.absorb_consumed (by decide)]
  · obtain ⟨hav, hres⟩ := exec_skippad_ok h hok
    have hlen := congrArg List.length (hoffers.take_eq hav)
    simp only [List.length_take, List.length_map, List.length_range] at hlen
    exact ⟨by omega, by rw [hres, st.absorb_consumed (pad_toNat_le _)]⟩
  · exact st.absorb_of_emitted (marshal_ok (n := 2) h hok) (exec_mar16_outBytes h hok)
  · exact st.absorb_of_emitted (marshal_ok (n := 4) h hok) (exec_mar32_outBytes h hok)
  · have hres := exec_emitpad_ok h hok
    exact st.absorb_of_emitted hres (hres ▸ outBytes_emitted_zero (pad_toNat_le _))

end Sys2Proof.Machine
end

section
/-!
PROOF. Which statuses a command can be answered with (60_exceptions.md R90), and what of the port lines it reads
(10_state.md R20; 20_memory.md R35). Each is said once for all thirteen instructions: `exec_mayAnswer` bounds the
statuses, and `portsAlike_exec` says which changes of the port lines leave the answer alone.
-/
namespace Sys2Proof

/-- The statuses an instruction can be answered with (R90). Only RDREG of a reserved slot, which no command decodes to,
is not well formed (R62). -/
def Instr.MayAnswer (i : Instr) : Machine.Status → Prop
  | .ok => True
  | .short =>
    i = .unm16 ∨ i = .unm32 ∨ (∃ v, i = .mar16 v) ∨ (∃ v, i = .mar32 v) ∨ i = .skippad ∨ i = .emitpad
  | .invalidArg =>
    (∃ w h d, i = .geom w h d) ∨ (∃ sel, i = .rdreg sel) ∨ (∃ y, i = .rowrev y) ∨ (∃ y, i = .rowaddr y) ∨
      (∃ x y, i = .pixaddr x y) ∨ i = .skippad ∨ i = .emitpad
  | .unsupported => ∃ w h d, i = .geom w h d
  | .overflow => ∃ w h d, i = .geom w h d
  | .illegal => i.wellFormed = false

end Sys2Proof

namespace Sys2Proof.Machine

/-! ### The statuses of each instruction (R90) -/

theorem Status.code_toNat_lt (e : Status) : e.code.toNat < 6 := by
  cases e <;> decide

section
variable {i : Instr} {v : Word} {e : Status} {s t : State} {c : Prop} [Decidable c]

/-- A transfer is answered with one of two responses. -/
theorem mayAnswer_of_transfer {r r' : Response} {o : Host.Outcome State Fault Refusal}
    (ho : o = .next (s.respond (if c then r else r'))) (hr : i.MayAnswer r.status) (hr' : i.MayAnswer r'.status)
    (h : o = .next t) : i.MayAnswer t.response.status := by
  cases ho.symm.trans h
  rw [State.respond_response]
  split
  · exact hr
  · exact hr'

/-- A command with a bounds check completes or raises. -/
theorem mayAnswer_of_check (he : i.MayAnswer e) (h : (if c then complete v s else raise e s) = .next t) :
    i.MayAnswer t.response.status := by
  split at h
  · obtain rfl := answer_eq_next_iff.1 h
    trivial
  · obtain rfl := answer_eq_next_iff.1 h
    exact he

theorem exec_rdreg_mayAnswer {sel : BitVec 4} (h : exec (.rdreg sel) s = .next t) :
    (Instr.rdreg sel).MayAnswer t.response.status := by
  cases hread : s.regs.read sel with
  | none =>
    cases (exec_rdreg_of_read_none hread).symm.trans h
    refine decide_eq_false fun hsel => ?_
    obtain ⟨v, hv⟩ := s.regs.exists_read_eq_some hsel
    cases hread.symm.trans hv
  | some v =>
    rw [exec_rdreg_of_read hread, ← ite_not] at h
    exact mayAnswer_of_check (by simp [Instr.MayAnswer]) h

/-- What `exec` can be answered with. -/
theorem exec_mayAnswer (h : exec i s = .next t) : i.MayAnswer t.response.status := by
  cases i with
  | nop | gclr =>
    obtain rfl := answer_eq_next_iff.1 h
    trivial
  | unm16 | unm32 =>
    exact mayAnswer_of_transfer (unmarshal_eq _ s) trivial (by simp [Instr.MayAnswer]) h
  | mar16 | mar32 =>
    exact mayAnswer_of_transfer (marshal_eq _ _ s) trivial (by simp [Instr.MayAnswer]) h
  | skippad =>
    obtain ⟨-, hd⟩ | ⟨-, hst⟩ := exec_skippad_cases h
    · exact mayAnswer_of_transfer (discard_eq _ s) (by simp [Instr.MayAnswer]) trivial hd
    · simp [hst, Instr.MayAnswer]
  | emitpad =>
    obtain ⟨-, hd⟩ | ⟨-, hst⟩ := exec_emitpad_cases h
    · exact mayAnswer_of_transfer (emitZeros_eq _ s) (by simp [Instr.MayAnswer]) trivial hd
    · simp [hst, Instr.MayAnswer]
  | rowrev | rowaddr | pixaddr => exact mayAnswer_of_check (by simp [Instr.MayAnswer]) h
  | geom w ht d =>
    obtain ⟨e, rfl | rfl | rfl, rfl⟩ | ⟨r, -, -, rfl⟩ := exec_geom_cases h <;> simp [Instr.MayAnswer]
  | rdreg sel => exact exec_rdreg_mayAnswer h

end

/-! ### What of the port lines a command reads (R20, R35) -/

/-- `p` shows what `p'` does: the same lines, and the same bytes on the lanes that hold the stream's. -/
def InPort.Alike (p p' : InPort) : Prop :=
  p.inOk = p'.inOk ∧ p.inAvail = p'.inAvail ∧ ∀ k < p'.avail, lane p.inData k = lane p'.inData k

/-- `s` with other port lines. -/
def State.withPorts (s : State) (p : InPort) (q : OutPort) : State := { s with inPort := p, outPort := q }

/-- `a` answers alike whether the port lines are those of `s` or `p` and `q`. -/
def PortsAlike (s : State) (p : InPort) (q : OutPort) (a : State → Host.Outcome State Fault Refusal) : Prop :=
  ∀ t, a s = .next t → a (s.withPorts p q) = .next (t.withPorts p q)

section
variable {s : State} {p : InPort} {q : OutPort} {a b x : State → Host.Outcome State Fault Refusal} {n : Nat}

/-- The same registers and the same response, with both port lines. -/
theorem portsAlike_of_answer {g : Regs} {r : Response} (h : a s = .next ((s.withRegs g).respond r))
    (h' : a (s.withPorts p q) = .next (((s.withPorts p q).withRegs g).respond r)) : PortsAlike s p q a := by
  intro t ht
  cases h.symm.trans ht
  exact h'

theorem portsAlike_raise (e : Status) : PortsAlike s p q (raise e) :=
  portsAlike_of_answer (raise_eq e s) (raise_eq e _)

theorem portsAlike_complete (v : Word) : PortsAlike s p q (complete v) :=
  portsAlike_of_answer (complete_eq v s) (complete_eq v _)

theorem InPort.Alike.canRead_eq {p p' : InPort} (h : p.Alike p') (n : Nat) : p.canRead n = p'.canRead n := by
  obtain ⟨hok, hav, -⟩ := h
  rw [Bool.eq_iff_iff, InPort.canRead_iff, InPort.canRead_iff, hok, hav]

/-- The bytes a possible read assembles are on lanes that hold the stream's. -/
theorem portsAlike_unmarshal (hp : p.Alike s.inPort) : PortsAlike s p q (unmarshal n) := by
  refine portsAlike_of_answer (unmarshal_eq n s) ((unmarshal_eq n _).trans ?_)
  change Host.Outcome.next (State.respond _ (if p.canRead n then _ else _)) = _
  rw [hp.canRead_eq]
  obtain ⟨-, -, hlanes⟩ := hp
  split
  · have hread : lowBytes n p.inData = lowBytes n s.inPort.inData :=
      lowBytes_congr fun k hk => hlanes k (hk.trans_le (InPort.canRead_iff.1 ‹_›).2)
    rw [memRead, memRead, ← hread]
    rfl
  · rfl

theorem portsAlike_discard (hp : p.Alike s.inPort) : PortsAlike s p q (discard n) :=
  portsAlike_of_answer (discard_eq n s) (hp.canRead_eq n ▸ discard_eq n (s.withPorts p q))

theorem portsAlike_marshal (hq : q = s.outPort) (v : Word) : PortsAlike s p q (marshal n v) := by
  subst hq
  exact portsAlike_of_answer (marshal_eq n v s) (marshal_eq n v _)

theorem portsAlike_emitZeros (hq : q = s.outPort) : PortsAlike s p q (emitZeros n) := by
  subst hq
  exact portsAlike_of_answer (emitZeros_eq n s) (emitZeros_eq n _)

/-- A command behind a check `c` of the registers, which are the same with both port lines. -/
theorem portsAlike_of_check (c : Prop) [Decidable c] (ha : PortsAlike s p q a) (hb : PortsAlike s p q b)
    (hx : x s = if c then a s else b s)
    (hx' : x (s.withPorts p q) = if c then a (s.withPorts p q) else b (s.withPorts p q)) : PortsAlike s p q x := by
  intro t ht
  rw [hx] at ht
  rw [hx']
  split at ht
  · rw [if_pos ‹_›]
    exact ha t ht
  · rw [if_neg ‹_›]
    exact hb t ht

theorem portsAlike_exec_rdreg (sel : BitVec 4) : PortsAlike s p q (exec (.rdreg sel)) := by
  cases hread : s.regs.read sel with
  | none =>
    exact portsAlike_of_answer (exec_rdreg_of_read_none hread) (exec_rdreg_of_read_none hread)
  | some v =>
    exact portsAlike_of_check _ (portsAlike_raise .invalidArg) (portsAlike_complete v) (exec_rdreg_of_read hread)
      (exec_rdreg_of_read hread)

/-- Only the commands that reach a stream look at its port, and of the lanes at those that hold the stream's bytes. -/
theorem portsAlike_exec {i : Instr} (hin : i.ReadsIn → p.Alike s.inPort) (hout : i.WritesOut → q = s.outPort) :
    PortsAlike s p q (exec i) := by
  cases i with
  | nop => exact portsAlike_complete 0
  | unm16 | unm32 => exact portsAlike_unmarshal (hin (by simp [Instr.ReadsIn]))
  | mar16 | mar32 => exact portsAlike_marshal (hout (by simp [Instr.WritesOut])) _
  | gclr => exact portsAlike_of_answer (exec_gclr s) (exec_gclr _)
  | geom w h d =>
    cases hcalc : geomCalc (sint32 w) (sint32 h) d.toNat with
    | error e => exact portsAlike_of_answer (exec_geom_of_error hcalc) (exec_geom_of_error hcalc)
    | ok g => exact portsAlike_of_answer (exec_geom_of_ok hcalc) (exec_geom_of_ok hcalc)
  | rdreg sel => exact portsAlike_exec_rdreg sel
  | rowrev | rowaddr | pixaddr =>
    exact portsAlike_of_check _ (portsAlike_complete _) (portsAlike_raise .invalidArg) rfl rfl
  | skippad =>
    exact portsAlike_of_check _ (portsAlike_discard (hin (by simp [Instr.ReadsIn]))) (portsAlike_raise .invalidArg)
      rfl rfl
  | emitpad =>
    exact portsAlike_of_check _ (portsAlike_emitZeros (hout (by simp [Instr.WritesOut])))
      (portsAlike_raise .invalidArg) rfl rfl

/-- Another input port alone. -/
theorem exec_withInPort {i : Instr} {t : State} (hin : i.ReadsIn → p.Alike s.inPort) (h : exec i s = .next t) :
    exec i { s with inPort := p } = .next { t with inPort := p } := by
  obtain ⟨g, r, hr, -⟩ := exec_answersWith i s
  cases hr.eq.symm.trans h
  exact portsAlike_exec hin (fun _ => rfl) _ h

/-- Another output port alone. -/
theorem exec_withOutPort {i : Instr} {t : State} (hout : ¬ i.WritesOut) (h : exec i s = .next t) :
    exec i { s with outPort := q } = .next { t with outPort := q } := by
  obtain ⟨g, r, hr, -⟩ := exec_answersWith i s
  cases hr.eq.symm.trans h
  exact portsAlike_exec (fun _ => ⟨rfl, rfl, fun _ _ => rfl⟩) (absurd · hout) _ h

end

theorem Answers.outData_eq_zero {i : Instr} {r : Response} (h : Answers i r) (hi : ¬ i.WritesOut) :
    r.outData = 0 := by
  cases h with
  | emitted _ hw => exact absurd hw hi
  | raised | completed | consumed => rfl

/-! ### The obligations -/

/-- Settles O36: an ILLEGAL command raises ILLEGAL, and a decoded one is well formed and answered as its instruction
may be. -/
theorem statusesHaveTheirCodesAndRaisers : Obligations.StatusesHaveTheirCodesAndRaisers := by
  refine ⟨rfl, rfl, rfl, rfl, rfl, rfl, fun s u t rest hs hstep => ⟨u.response.status.code_toNat_lt, ?_⟩⟩
  obtain ⟨e, hd, hu⟩ | ⟨i, hd, hu⟩ := step_command_cases hs hstep
  · obtain rfl := answer_eq_next_iff.1 hu
    simp [hd]
  · have hmay {e : Status} (he : u.response.status = e) : i.MayAnswer e := he ▸ exec_mayAnswer hu
    have hwf : i.wellFormed = true := (decodedInstructionKeepsItsWord _ _ hd).1
    simp only [hd, Except.ok.injEq, ne_eq]
    exact ⟨hmay, hmay, hmay, hmay, fun he => absurd (hwf.symm.trans (hmay he)) nofun, fun hno => absurd rfl (hno i)⟩

/-- Settles O45: a command that does not reach a stream moves no byte of it and answers alike with another port. -/
theorem onlyStreamCommandsReachTheStreams : Obligations.OnlyStreamCommandsReachTheStreams := by
  intro i s t h
  have ha : Answers i t.response := answers_of_exec h
  refine ⟨fun h16 h32 hpad => ?_, fun h16 h32 hpad => ?_⟩
  · have hin : ¬ i.ReadsIn := by simp [Instr.ReadsIn, h16, h32, hpad]
    exact ⟨ha.inConsumed_eq_zero hin, fun p => exec_withInPort (absurd · hin) h⟩
  · have hout : ¬ i.WritesOut := by simp [Instr.WritesOut, h16, h32, hpad]
    exact ⟨ha.outCount_eq_zero hout, ha.outData_eq_zero hout, fun q => exec_withOutPort hout h⟩

/-- Settles O46: the two presentations are alike. -/
theorem lanesBeyondAvailAreNotRead : Obligations.LanesBeyondAvailAreNotRead :=
  fun _ _ _ _ hlanes h => exec_withInPort (fun _ => ⟨rfl, rfl, hlanes⟩) h

end Sys2Proof.Machine
end
